-- ==== Sys2Proof/Word.lean ====
section
/-! DEFINITION. The words the CP-12's bytes and counters are made of. -/

namespace Sys2Proof

/-- One byte of a frame, a report or a message (R210). -/
abbrev Byte := BitVec 8

/-- A value of the time count: 32 bits, units of 10 ms, wrapping (R205). -/
abbrev Time := BitVec 32

/-- The age of a stamp: the time count now minus the stamp, modulo 2^32 (R28). -/
def age (now stamp : Time) : Nat := (now - stamp).toNat

/-- Two values, one for each service point. -/
structure Pair (α : Type) where
  p1 : α
  p2 : α
deriving DecidableEq, Repr

/-- Three values, one for each engine or each link port. -/
structure Triple (α : Type) where
  first : α
  second : α
  third : α
deriving DecidableEq, Repr

end Sys2Proof
end

