-- ==== Sys2Proof/Syntax.lean ====
section
/-! DEFINITION. The commands of the CP-12: one constructor of Instr for each row of spec/opcode_table.json, with
the raw operands the row's frame, message or reply carries (R210). -/

namespace Sys2Proof

/-- The three link ports (R183): A at the pay window, B at the pickup window, M in the cash office. -/
inductive PortId where
  | a | b | m
deriving DecidableEq, Repr

/-- The two service points (R88). -/
inductive PointId where
  | p1 | p2
deriving DecidableEq, Repr

/-- The three payout engines (R109). -/
inductive EngineId where
  | p1 | p2 | m
deriving DecidableEq, Repr

/-- A store's station 1 to 12 (R1), as the index 0 to 11. -/
abbrev Station := Fin 12

/-- A slot 1 to 24 of the record table (R25), as the index 0 to 23. -/
abbrev Slot := Fin 24

/-- The five level bands (R172). -/
inductive Band where
  | empty | low | mid | high | full
deriving DecidableEq, Repr

/-- The setting of a module's exit diverter (R139). -/
inductive Gate where
  | unset | cupP1 | cupP2 | cashbox
deriving DecidableEq, Repr

/-- A level of the cashbox presence sensor (R160). -/
inductive Presence where
  | inPlace | out
deriving DecidableEq, Repr

/-- A final outcome of an eject (R141). -/
inductive EjectOutcome where
  | item | double | none
deriving DecidableEq, Repr

/-- Who asks for the result of an eject: an engine (R115), or start-up reconciliation (R208). -/
inductive Asker where
  | engine (e : EngineId)
  | startUp
deriving DecidableEq, Repr

/-- The body of a command frame, as step 6 of R186 finds it: it fits the command and gives its raw fields, or its
length or form does not fit. -/
inductive Body (α : Type) where
  | fits (fields : α)
  | misfit
deriving DecidableEq, Repr

/-- The body of a command without arguments. -/
structure NoFields where
deriving DecidableEq, Repr

/-- OPEN: tag 2, kind 1, due 3 (R210). -/
structure OpenFields where
  tag : BitVec 16
  kind : Byte
  due : BitVec 24
deriving DecidableEq, Repr

/-- AMEND: tag 2, due 3 (R210). -/
structure AmendFields where
  tag : BitVec 16
  due : BitVec 24
deriving DecidableEq, Repr

/-- A tag alone: UNBIND, VOID, CLOSE-SHORT, RETIRE, SETTLE, PAY (R210). -/
structure TagFields where
  tag : BitVec 16
deriving DecidableEq, Repr

/-- BIND and HANDOVER: tag 2, point 1 (R210). -/
structure TagPointFields where
  tag : BitVec 16
  point : Byte
deriving DecidableEq, Repr

/-- QUERY-RECORD: tag 2, part 1, first entry 1, default 0 (R210, R211). -/
structure QueryRecordFields where
  tag : BitVec 16
  part : Byte
  first : Byte
deriving DecidableEq, Repr

/-- One byte: a slot, a station, a point or an engine (R210). -/
structure ByteFields where
  value : Byte
deriving DecidableEq, Repr

/-- SKIM and SKIM-TO: station 1, items or target 2 (R210). -/
structure SkimFields where
  station : Byte
  items : BitVec 16
deriving DecidableEq, Repr

/-- QUERY-POINT: point 1, part 1, default POINT, first entry 1, default 0 (R210, R211). -/
structure QueryPointFields where
  point : Byte
  part : Byte
  first : Byte
deriving DecidableEq, Repr

/-- SET-STORE: station 1, field mask 2, then the fields given (R210). -/
structure SetStoreFields where
  station : Byte
  present : Option Byte
  kind : Option Byte
  denomination : Option (BitVec 16)
  capacity : Option (BitVec 16)
  floor : Option (BitVec 16)
  low : Option (BitVec 16)
  high : Option (BitVec 16)
  routeLimit : Option (BitVec 16)
  edge : Option Byte
  window : Option Byte
  staging : Option Byte
  baseline : Bool
deriving DecidableEq, Repr

/-- READ-FAULT and CLEAR-FAULT: bank kind 1, number 1 (R210). -/
structure BankFields where
  kind : Byte
  number : Byte
deriving DecidableEq, Repr

/-- CLEAR-EVENTS and SET-MASK: kinds 2 (R210). -/
structure KindsFields where
  kinds : BitVec 16
deriving DecidableEq, Repr

/-- SET-POINT: point 1, field mask 1, then the fields given (R210). -/
structure SetPointFields where
  point : Byte
  mode : Option Byte
  short : Option Byte
  retry : Option Byte
  itemsLimit : Option Byte
  inhibit : Option Byte
deriving DecidableEq, Repr

/-- SET-SYSTEM: field mask 1, then the fields given (R210). -/
structure SetSystemFields where
  unit : Option Byte
  hold : Option (BitVec 16)
  boxCapacity : Option (BitVec 16)
  boxNearFull : Option (BitVec 16)
  attention : Option (BitVec 16)
deriving DecidableEq, Repr

/-- What the non-volatile set-up block does with a SAVE-SETUP (R202): the write lands and reads back good, the
block is left with a failing check, or the block is good and only its read-back fails. -/
inductive WriteOutcome where
  | landed | badBlock | badRead
deriving DecidableEq, Repr

/-- What is wrong with the non-volatile memories as a POWER or BROWNOUT reset finds them: a check that fails in
the set-up block (R203) or in either copy of count memory (R204). -/
structure Damage where
  setUp : Bool
  copyA : Bool
  copyB : Bool
deriving DecidableEq, Repr

/-- A set of the four reset causes (R205). -/
structure Causes where
  power : Bool
  brownout : Bool
  pin : Bool
  link : Bool
deriving DecidableEq, Repr

/-- One reply read by start-up reconciliation (R208): RESULT (absent while PENDING, else the outcome and the held
flag), STATUS, or TALLY. -/
inductive ReconRead where
  | result (final : Option (EjectOutcome × Bool))
  | status (jam door held : Bool) (gate : Gate)
  | tally (value : Byte) (gate : Gate)
deriving DecidableEq, Repr

/-- The commands: one constructor for each row of spec/opcode_table.json.
A terminal's command carries the port its frame arrives on and its body.
The end of an exchange carries the station its reply names in bits 4 to 7 of its header (R210). -/
inductive Instr where
  -- 02 Tender Records
  | openRecord (port : PortId) (body : Body OpenFields)
  | amend (port : PortId) (body : Body AmendFields)
  | bind (port : PortId) (body : Body TagPointFields)
  | unbind (port : PortId) (body : Body TagFields)
  | handover (port : PortId) (body : Body TagPointFields)
  | voidRecord (port : PortId) (body : Body TagFields)
  | closeShort (port : PortId) (body : Body TagFields)
  | retire (port : PortId) (body : Body TagFields)
  | queryRecord (port : PortId) (body : Body QueryRecordFields)
  | listRecords (port : PortId) (body : Body ByteFields)
  -- 03 Change Planning
  | settle (port : PortId) (body : Body TagFields)
  -- 06 Payout Engines
  | pay (port : PortId) (body : Body TagFields)
  | abort (port : PortId) (body : Body ByteFields)
  | skim (port : PortId) (body : Body SkimFields)
  | skimTo (port : PortId) (body : Body SkimFields)
  | testEject (port : PortId) (body : Body ByteFields)
  -- 05 Tender Intake
  | queryPoint (port : PortId) (body : Body QueryPointFields)
  | clearUnclaimed (port : PortId) (body : Body ByteFields)
  | floatBegin (port : PortId) (body : Body ByteFields)
  | floatEnd (port : PortId) (body : Body ByteFields)
  -- 01 Stores
  | queryStore (port : PortId) (body : Body ByteFields)
  | disable (port : PortId) (body : Body ByteFields)
  | enable (port : PortId) (body : Body ByteFields)
  | setStore (port : PortId) (body : Body SetStoreFields)
  -- 08 Refill, Skim and the Cashbox
  | refillBegin (port : PortId) (body : Body ByteFields)
  | refillEnd (port : PortId) (body : Body ByteFields)
  | refillCancel (port : PortId) (body : Body ByteFields)
  | queryCashbox (port : PortId) (body : Body NoFields)
  -- 09 Faults
  | readFault (port : PortId) (body : Body BankFields)
  | clearFault (port : PortId) (body : Body BankFields)
  -- 10 The Lane Link
  | readEvents (port : PortId) (body : Body NoFields)
  | clearEvents (port : PortId) (body : Body KindsFields)
  | setMask (port : PortId) (body : Body KindsFields)
  -- 11 Set-up Memory
  | setPoint (port : PortId) (body : Body SetPointFields)
  | setSystem (port : PortId) (body : Body SetSystemFields)
  | saveSetup (port : PortId) (body : Body NoFields) (write : WriteOutcome)
  | readCause (port : PortId) (body : Body NoFields)
  | resetCommand (port : PortId) (body : Body NoFields)
  -- 10 qualifiers and the ends of frames
  | asPoint (port : PortId) (body : Body ByteFields)
  | quiet (port : PortId) (body : Body NoFields)
  | unknown (port : PortId) (kind code : Byte)
  | check (port : PortId) (code : Byte)
  | lengthSilence (port : PortId) (length : Byte)
  | interByteGap (port : PortId)
  | frameWhileReplyOwed (port : PortId)
  -- 11 resets and start-up
  | power (together : Causes) (sensor : Presence) (damage : Damage)
  | brownout (together : Causes) (sensor : Presence) (damage : Damage)
  | pin (withLink : Bool) (setUpBad : Bool)
  | link (withPin : Bool) (setUpBad : Bool)
  | moduleSettleWait
  | endOfStartUp
  -- 04 lapse, 08 the presence sensor
  | lapse (tag : BitVec 16)
  | cashboxPresence (level : Presence)
  -- 05 and 09 the acceptor lines
  | accepted (point : PointId) (item : Byte) (denomination : BitVec 24)
  | ident (point : PointId) (recognised : List (BitVec 16)) (held : List (Byte × BitVec 16))
  | maskHeld (point : PointId) (mask : BitVec 16)
  | acceptorBadCheck (point : PointId)
  | maskUpdate (point : PointId)
  | silent (point : PointId)
  | noIdent (point : PointId)
  | identify (point : PointId)
  -- 07 the tube bus, with the exchanges of 06, 08, 09 and 11
  | busGrant
  | replyWait
  | noReply
  | badOp (station : BitVec 4)
  | divert (station : BitVec 4) (done : Bool)
  | divertFill (station : BitVec 4) (done : Bool)
  | eject (station : BitVec 4) (done : Bool)
  | result (station : BitVec 4) (final : Option (EjectOutcome × Bool))
  | resultReask (asker : Asker)
  | resultDeadline (asker : Asker)
  | status (station : BitVec 4) (jam door held : Bool) (gate : Gate)
  | tally (station : BitVec 4) (value : Byte) (gate : Gate)
  | band (station : BitVec 4) (level : Option Band)
  | deferredBandRead (station : Station)
  | clearAttn (station : BitVec 4)
  | window (station : BitVec 4)
  | stageOn (station : BitVec 4)
  | stageOff (station : BitVec 4)
  | fillOpen (station : BitVec 4) (done : Bool)
  | fillClose (station : BitVec 4) (tally : BitVec 16)
  | ejectReconciliation (station : BitVec 4) (read : ReconRead)
  | attentionPoll
  | attentionMap (slots : List (Option Byte))
  -- 10 the end of a reply
  | replySent (port : PortId)
deriving DecidableEq, Repr

end Sys2Proof
end

