-- ==== Sys2Proof/Machine/Types.lean ====
section
/-! DEFINITION. The records, banks, queues and tables the state of the CP-12 is made of, as plain data. -/

namespace Sys2Proof.Machine

/-! ## Tender records (02) -/

/-- R27: SALE or REFUND. -/
inductive RecKind where
  | sale | refund
deriving DecidableEq, Repr

/-- The eight states of a record (R34). -/
inductive RecState where
  | opened | tendering | settled | paying | partPaid | interrupted | paid | void
deriving DecidableEq, Repr

/-- Where a SETTLE found the record (R33). -/
inductive SettledFrom where
  | new | partPaid | interrupted
deriving DecidableEq, Repr

/-- An entry of a reservation list (R27). -/
structure Entry where
  station : Station
  items : Nat
deriving DecidableEq, Repr

/-- A tender record (R27). Its slot is its place in the table, its point the point bound to its tag;
remaining, overpaid and balance due are derived. An absent shortfall is a clear SHORT mark. -/
structure Rec where
  tag : Nat
  kind : RecKind
  state : RecState
  due : Nat
  tendered : Nat
  excess : Nat
  owed : Option Nat
  paid : Nat
  planned : Option Nat
  delivered : Option Nat
  list : List Entry
  shortfall : Option Nat
  pinned : Bool
  settledFrom : Option SettledFrom
  openedAt : Time
  stateSince : Time
  lapseAt : Option Time
  listChange : BitVec 8
deriving DecidableEq, Repr

/-! ## Stores (01) -/

/-- R2: COIN or NOTE. -/
inductive StoreKind where
  | coin | note
deriving DecidableEq, Repr

/-- Which level edges latch STORE-LEVEL (R7). -/
inductive EdgeDir where
  | enter | leave | both
deriving DecidableEq, Repr

/-- The six store states (R8). -/
inductive StoreState where
  | active | empty | jammed | offline | refill | disabled
deriving DecidableEq, Repr

/-- The configured fields of a store record, which are also the station's entry in the working copy of the set-up
block (R2, R18, R199). The eject window is in units of 10 ms (R210). -/
structure StoreCfg where
  present : Bool
  kind : StoreKind
  denomination : Nat
  capacity : Nat
  floor : Nat
  low : Nat
  high : Nat
  routeLimit : Nat
  edge : EdgeDir
  window : Nat
  staging : Bool
deriving DecidableEq, Repr

/-- What a DIVERT sets (R140). -/
inductive Dest where
  | cupP1 | cupP2 | cashbox | fillP1 | fillP2
deriving DecidableEq, Repr

/-- An eject ordered and without its final result, as count memory keeps it (R204). -/
structure EjectRecord where
  engine : EngineId
  dest : Dest
deriving DecidableEq, Repr

/-- A store record (R2) with its arbiter (R20), and what the reconciler, the tube bus controller and count memory
hold for its station (R135, R143, R173, R178, R182, R204). settingsUnset says that gate position UNSET is a cause of the
settings-due mark, so that the settings go out to an absent station too (R143). -/
structure Store where
  cfg : StoreCfg
  count : Nat
  reserved : Nat
  inTally : BitVec 32
  outTally : BitVec 32
  state : StoreState
  unverified : Bool
  low : Bool
  high : Bool
  nearFull : Bool
  held : Bool
  holder : Option EngineId
  waiting : List EngineId
  burst : Nat
  moduleTally : BitVec 8
  bandLast : Option (Band × Time)
  lastRouted : Option Time
  settingsDue : Bool
  settingsUnset : Bool
  sequence : BitVec 4
  ejectRecord : Option EjectRecord
deriving DecidableEq, Repr

/-! ## Intake units (05) -/

/-- What a point's credits are applied to (R88). FLOAT carries the float total (R104). -/
inductive Binding where
  | none
  | record (tag : Nat)
  | float (total : Nat)
deriving DecidableEq, Repr

/-- The state of an acceptor line (R88). -/
inductive LineState where
  | starting | up | lost
deriving DecidableEq, Repr

/-- Where an item was routed (R97). -/
inductive Route where
  | store (station : Station)
  | cashbox
deriving DecidableEq, Repr

/-- A credit queue entry (R97). -/
structure Credit where
  item : Byte
  denomination : Nat
  acceptedAt : Time
  route : Option Route
  applied : Bool
deriving DecidableEq, Repr

/-- The messages the controller sends on an acceptor line (R89). -/
inductive AcceptorMessage where
  | identify
  | maskUpdate (mask : List Nat)
  | noted (item : Byte)
  | release (item : Byte)
deriving DecidableEq, Repr

/-- An intake unit's state of its service point (R88), its timers (R93, R180, R182), and the messages it sent in the
latest action. An item of release owed keeps its denomination, with which R98 counts it into the cashbox. -/
structure Point where
  binding : Binding
  line : LineState
  recognised : Option (List Nat)
  mask : List Nat
  maskSent : Option (List Nat)
  lastNoted : Option Byte
  queue : List Credit
  routeOut : Option Byte
  releaseOwed : List (Byte × Nat)
  unclaimed : Nat
  watch : Option Time
  maskSentAt : Option Time
  sent : List AcceptorMessage
deriving DecidableEq, Repr

/-! ## Payout engines (06) -/

/-- R109: IDLE, RUNNING, ENDING. -/
inductive EngineState where
  | idle | running | ending
deriving DecidableEq, Repr

/-- The payout modes (R109, R199). -/
inductive PayMode where
  | halt | cont | retry | substitute
deriving DecidableEq, Repr

/-- R109: none, waiting, held. -/
inductive Grant where
  | none | waiting | held
deriving DecidableEq, Repr

/-- An outstanding eject (R109). -/
structure Outstanding where
  station : Station
  dest : Dest
  repliedAt : Time
  repeats : Nat
deriving DecidableEq, Repr

/-- The kinds of an engine M run (R109). -/
inductive RunKind where
  | skim | skimTo | testEject
deriving DecidableEq, Repr

/-- How a run of engine M ended (R133). -/
inductive RunOutcome where
  | complete | none | store | cashbox | aborted
deriving DecidableEq, Repr

/-- A run of engine M (R109). -/
structure Run where
  kind : RunKind
  station : Station
  goal : Nat
  counted : Nat
deriving DecidableEq, Repr

/-- Engine M's last run (R109, R133). -/
structure LastRun where
  kind : RunKind
  station : Station
  counted : Nat
  value : Nat
  outcome : RunOutcome
deriving DecidableEq, Repr

/-- The exchange an engine needs next (R113 to R115). -/
inductive EngineOp where
  | divert | eject | result
deriving DecidableEq, Repr

/-- A payout engine (R109). station is the store it works: the one whose grant it holds or awaits, whose result it
collects or whose read it awaits; the plan cursor is derived from the list (State.planCursor). needs is the exchange it
asks the bus for, repeats the repeats made in a RETRY run (R121), released the items and denomination kept for
substitution (R119 step 1), endCause what sent engine M to ENDING (R132, R133). -/
structure Engine where
  state : EngineState
  record : Option Nat
  mode : Option PayMode
  retry : Nat
  station : Option Station
  grant : Grant
  outstanding : Option Outstanding
  planItems : Nat
  excluded : BitVec 12
  bandAwaited : Option Station
  run : Option Run
  lastRun : Option LastRun
  needs : Option EngineOp
  repeats : Nat
  released : Nat × Nat
  endCause : Option RunOutcome
deriving DecidableEq, Repr

/-! ## Tube bus (07) and reconciler (09) -/

/-- The seven requesters of the tube bus (R144). -/
inductive Requester where
  | engine (e : EngineId)
  | intake (p : PointId)
  | reconciler
  | poller
deriving DecidableEq, Repr

/-- The twelve operations with their arguments (R139 to R143, R210). -/
inductive TubeOp where
  | status | band
  | divert (dest : Dest)
  | eject | result | tally | fillOpen | fillClose | stageOn | stageOff
  | window (units : Nat)
  | clearAttn
deriving DecidableEq, Repr

/-- An exchange in progress: the request that was sent (R135), whether its repeat was sent (R136), and whether its
requester has given it up (R126, R180). -/
structure Exchange where
  requester : Requester
  station : Station
  op : TubeOp
  sequence : BitVec 4
  repeated : Bool
  abandoned : Bool
deriving DecidableEq, Repr

/-- The attention poller's states (R148). -/
inductive PollerState where
  | quiet | polling | service
deriving DecidableEq, Repr

/-- The tube bus controller: the bus arbiter (R144), the exchange or poll in progress, the attention poller (R148). -/
structure Bus where
  holder : Option Requester
  round : List Requester
  waiting : List Requester
  exchange : Option Exchange
  polling : Bool
  poller : PollerState
  pollMap : BitVec 12
  serviceLeft : BitVec 12
  serviceEnd : Option Time
deriving DecidableEq, Repr

/-- The exchanges the reconciler's place makes (R144). -/
inductive RecOp where
  | result | status | tally | band | clearAttn | window | stage | fillOpen | fillClose
deriving DecidableEq, Repr

/-- Why a piece of work stands in the reconciler's list: attention service (R149), a band read (R173), a STATUS read of
ENABLE or of a failed FILL-OPEN (R17, R152), settings (R143), the exchange of a Port M command with its QUIET (R144,
R193), or start-up (R207). -/
inductive WorkCause where
  | service
  | read
  | statusRead
  | settings
  | clearFault (quiet : Bool)
  | refillBegin (quiet : Bool)
  | refillEnd (quiet : Bool)
  | refillCancel (quiet : Bool)
  | startEject
  | startFill
  | startStatus
  | startSettings
  | startBand
deriving DecidableEq, Repr

/-- One piece of the reconciler's work: the exchanges left for one cause at one station. A band read may serve several
causes (R173): verifies says that it verifies a count, attention that it is a service's read placed again (R174), asked
that an engine called for it and does not wait (R118, R133), afterNone that an engine awaits it after a final NONE
(R176). sawUnset says that this work's STATUS found gate position UNSET (R178, R208), stale that the settings became due
anew while they were on the bus (R143), since when the first RESULT was sent, and paused that a PENDING reply waits its
5 ms (R208). -/
structure Work where
  station : Station
  cause : WorkCause
  ops : List RecOp
  verifies : Bool
  attention : Bool
  asked : Bool
  afterNone : Bool
  sawUnset : Bool
  stale : Bool
  since : Option Time
  paused : Bool
deriving DecidableEq, Repr

/-- The reconciler's work list (R173): work in order, and the deferred band reads that wait for R174's conditions. -/
structure Reconciler where
  work : List Work
  deferred : List Work
deriving DecidableEq, Repr

/-! ## Fault banks (09) -/

/-- The fault codes (R168). -/
inductive FaultCode where
  | noReply | badOp | jam | door | countLow | countHigh | doubleFeed | strayExit | fillOverrun | queueOverrun
  | acceptorSilent
deriving DecidableEq, Repr

/-- R167: the block whose work met the fault. -/
inductive FaultSource where
  | engine (e : EngineId)
  | intake (p : PointId)
  | reconciler
  | command
deriving DecidableEq, Repr

/-- A capture (R167); the severity follows the code (R168). -/
structure Capture where
  code : FaultCode
  time : Time
  countAt : Option Nat
  expected : Option Nat
  observed : Option Nat
  source : FaultSource
  extra : Option Nat
deriving DecidableEq, Repr

/-- A fault bank (R167): VALID is the presence of a capture. -/
structure Bank where
  overflow : Bool
  capture : Option Capture
deriving DecidableEq, Repr

/-! ## Cashbox monitor (08) -/

/-- R160: the monitor's states. -/
inductive BoxState where
  | ok | nearFull | full | removed
deriving DecidableEq, Repr

/-- The cashbox monitor (R160). Its capacity and near-full level stand in the system entry. -/
structure Cashbox where
  count : Nat
  value : Nat
  looseCount : Nat
  looseValue : Nat
  presence : Presence
  state : BoxState
deriving DecidableEq, Repr

/-! ## Link ports and events (10) -/

/-- The sixteen statuses (R189). -/
inductive Status where
  | done | started | busy | state | point | noRecord | duplicate | full | shortTender | noChange | hasCash | range
  | privilege | check | unknown | setUpFault
deriving DecidableEq, Repr

/-- The fifteen event kinds (R194). -/
inductive Event where
  | payoutEndP1 | payoutEndP2 | skimEnd | creditUnclaimed | reservationLapsed | reservationLost | replanned
  | recordReclaimed | storeLevel | storeFault | pointFault | cashboxNearFull | cashboxFull | cashboxRemoved | restart
deriving DecidableEq, Repr

/-- A set of event kinds in the bits of R210. -/
abbrev EventSet := BitVec 16

/-- The commands of the lane link (R210). -/
inductive Cmd where
  | openRecord | amend | bind | unbind | handover | voidRecord | closeShort | retire | settle | queryRecord | listRecords
  | pay | abort | skim | skimTo | testEject
  | queryPoint | clearUnclaimed | floatBegin | floatEnd
  | queryStore | disable | enable | setStore | refillBegin | refillEnd | refillCancel
  | queryCashbox | readFault | clearFault
  | readEvents | clearEvents | setMask
  | setPoint | setSystem | saveSetup | readCause | resetCommand
deriving DecidableEq, Repr

/-- A reply (R185): the code of the frame it answers, the status, and the contents after the status byte. -/
structure Reply where
  code : Byte
  status : Status
  contents : List Byte
deriving DecidableEq, Repr

/-- Whether a frame is being received (R183). -/
inductive Assembly where
  | idle
  | receiving (bytes : List Byte)
deriving DecidableEq, Repr

/-- A link port (R183). The attention line follows latched and mask (R195). reply is the reply formed and not yet
sent whole (R185). -/
structure Port where
  assembly : Assembly
  lastByteAt : Option Time
  replyOwed : Option Cmd
  reply : Option Reply
  asPoint : Option PointId
  quiet : Bool
  latched : EventSet
  mask : EventSet
deriving DecidableEq, Repr

/-! ## Set-up memory and start-up (11) -/

/-- A point's set-up entry (R199). -/
structure PointSetup where
  mode : PayMode
  short : Bool
  retry : Nat
  itemsLimit : Nat
  inhibit : Nat
deriving DecidableEq, Repr

/-- The system entry (R199). -/
structure SystemSetup where
  unit : Nat
  hold : Nat
  boxCapacity : Nat
  boxNearFull : Nat
  attention : BitVec 12
deriving DecidableEq, Repr

/-- The contents of the set-up block (R199). -/
structure SetupData where
  stations : Vector StoreCfg 12
  points : Pair PointSetup
  system : SystemSetup
deriving DecidableEq, Repr

/-- The non-volatile set-up block (R202): its contents and the CRC-16 stored with them. -/
structure SetupBlock where
  data : SetupData
  crc : BitVec 16
deriving DecidableEq, Repr

/-- What count memory holds for one station (R204). -/
structure StationCounts where
  count : Nat
  inTally : BitVec 32
  outTally : BitVec 32
  moduleTally : BitVec 8
  ejectRecord : Option EjectRecord
deriving DecidableEq, Repr

/-- What one copy of count memory holds before its check (R204): the write number and the figures. -/
structure CountData where
  number : BitVec 32
  stations : Vector StationCounts 12
  boxCount : Nat
  boxValue : Nat
deriving DecidableEq, Repr

/-- One copy of count memory (R204): its contents and the CRC-16 stored with them. -/
structure CountCopy where
  data : CountData
  crc : BitVec 16
deriving DecidableEq, Repr

/-- Count memory (R204): two copies written in turn; lastIsA says which was written or read last. -/
structure CountMemory where
  copyA : CountCopy
  copyB : CountCopy
  lastIsA : Bool
deriving DecidableEq, Repr

/-- Start-up (R207), the module settle wait (R150), the end of the latest reset, and a RESET answered and not yet
begun (R206). -/
structure StartUp where
  ended : Bool
  settling : Bool
  resetEnd : Time
  resetPending : Bool
deriving DecidableEq, Repr

/-- The stations in ascending order. -/
def allStations : List Station := [0, 1, 2, 3, 4, 5, 6, 7, 8, 9, 10, 11]

/-- The slots in ascending order. -/
def allSlots : List Slot :=
  [0, 1, 2, 3, 4, 5, 6, 7, 8, 9, 10, 11, 12, 13, 14, 15, 16, 17, 18, 19, 20, 21, 22, 23]

end Sys2Proof.Machine
end

