-- ==== Sys2Proof/Machine/Codec.lean ====
section
/-! DEFINITION. Codes, checks and byte layouts of the lane link, the tube bus, the acceptor lines and the non-volatile
memories (R202, R204, R210). -/

namespace Sys2Proof.Machine

/-! ## Numbers and checks (R210, R202) -/

/-- R210 Numbers: a field of n bytes, most significant byte first. -/
def bytesOf : Nat → Nat → List Byte
  | 0, _ => []
  | n + 1, v => BitVec.ofNat 8 (v / 256 ^ n) :: bytesOf n v

/-- The number a field's bytes carry, most significant byte first (R210). -/
def numberOf (bs : List Byte) : Nat := bs.foldl (fun a b => a * 256 + b.toNat) 0

/-- One bit of the CRC-8 with polynomial x^8 + x^2 + x + 1 (R210). -/
def crc8Bit (c : BitVec 8) : BitVec 8 := if c.msb then (c <<< 1) ^^^ 0x07#8 else c <<< 1

/-- R210 Check: CRC-8 from 0xFF, each byte most significant bit first, not inverted. -/
def crc8 (bs : List Byte) : Byte := bs.foldl (fun c b => Nat.iterate crc8Bit 8 (c ^^^ b)) 0xFF#8

/-- One bit of the CRC-16 with polynomial x^16 + x^12 + x^5 + 1 (R202). -/
def crc16Bit (c : BitVec 16) : BitVec 16 := if c.msb then (c <<< 1) ^^^ 0x1021#16 else c <<< 1

/-- R202: CRC-16 from 0xFFFF, each byte most significant bit first, not inverted. -/
def crc16 (bs : List Byte) : BitVec 16 :=
  bs.foldl (fun c b => Nat.iterate crc16Bit 8 (c ^^^ BitVec.shiftLeft (b.setWidth 16) 8)) 0xFFFF#16

/-- One byte holding 1 for yes and 0 for no (DEDUCED, log 20). -/
def boolByte (b : Bool) : Byte := if b then 1#8 else 0#8

/-- The bit at place n of a byte. -/
def bit (n : Nat) (b : Bool) : Byte := if b then 1#8 <<< n else 0#8

/-! ## Codes (R210) -/

def Cmd.code : Cmd → Byte
  | .openRecord => 0x10 | .amend => 0x11 | .bind => 0x12 | .unbind => 0x13 | .handover => 0x14 | .voidRecord => 0x15
  | .closeShort => 0x16 | .retire => 0x17 | .settle => 0x18 | .queryRecord => 0x19 | .listRecords => 0x1A
  | .pay => 0x20 | .abort => 0x21 | .skim => 0x22 | .skimTo => 0x23 | .testEject => 0x24
  | .queryPoint => 0x30 | .clearUnclaimed => 0x31 | .floatBegin => 0x32 | .floatEnd => 0x33
  | .queryStore => 0x40 | .disable => 0x41 | .enable => 0x42 | .setStore => 0x43 | .refillBegin => 0x44
  | .refillEnd => 0x45 | .refillCancel => 0x46
  | .queryCashbox => 0x50 | .readFault => 0x51 | .clearFault => 0x52
  | .readEvents => 0x60 | .clearEvents => 0x61 | .setMask => 0x62
  | .setPoint => 0x70 | .setSystem => 0x71 | .saveSetup => 0x72 | .readCause => 0x73 | .resetCommand => 0x74

/-- Qualifier codes (R210). -/
def asPointCode : Byte := 0x01
def quietCode : Byte := 0x02

/-- Frame kinds (R210). -/
def commandKind : Byte := 0x01
def qualifierKind : Byte := 0x02
def replyKind : Byte := 0x03

/-- The start byte of lane link frames and acceptor-line messages (R210). -/
def startByte : Byte := 0xC3

def Status.code : Status → Byte
  | .done => 0x00 | .started => 0x01 | .busy => 0x10 | .state => 0x11 | .point => 0x12 | .noRecord => 0x13
  | .duplicate => 0x14 | .full => 0x15 | .shortTender => 0x16 | .noChange => 0x17 | .hasCash => 0x18 | .range => 0x19
  | .privilege => 0x1A | .check => 0x1B | .unknown => 0x1C | .setUpFault => 0x1D

/-- The bit of an event kind (R210). -/
def Event.index : Event → Nat
  | .payoutEndP1 => 0 | .payoutEndP2 => 1 | .skimEnd => 2 | .creditUnclaimed => 3 | .reservationLapsed => 4
  | .reservationLost => 5 | .replanned => 6 | .recordReclaimed => 7 | .storeLevel => 8 | .storeFault => 9
  | .pointFault => 10 | .cashboxNearFull => 11 | .cashboxFull => 12 | .cashboxRemoved => 13 | .restart => 14

def Event.mask (k : Event) : EventSet := 1#16 <<< k.index

def RecKind.code : RecKind → Nat
  | .sale => 1 | .refund => 2

def RecState.code : RecState → Nat
  | .opened => 1 | .tendering => 2 | .settled => 3 | .paying => 4 | .partPaid => 5 | .interrupted => 6 | .paid => 7
  | .void => 8

def SettledFrom.code : SettledFrom → Nat
  | .new => 1 | .partPaid => 2 | .interrupted => 3

def pointCode : PointId → Nat
  | .p1 => 1 | .p2 => 2

def engineCode : EngineId → Nat
  | .p1 => 1 | .p2 => 2 | .m => 3

def StoreState.code : StoreState → Nat
  | .active => 1 | .empty => 2 | .jammed => 3 | .offline => 4 | .refill => 5 | .disabled => 6

def StoreKind.code : StoreKind → Nat
  | .coin => 0 | .note => 1

def EdgeDir.code : EdgeDir → Nat
  | .enter => 1 | .leave => 2 | .both => 3

def bandCode : Band → Nat
  | .empty => 1 | .low => 2 | .mid => 3 | .high => 4 | .full => 5

def gateCode : Gate → Nat
  | .unset => 0 | .cupP1 => 1 | .cupP2 => 2 | .cashbox => 3

def Dest.code : Dest → Nat
  | .cupP1 => 1 | .cupP2 => 2 | .cashbox => 3 | .fillP1 => 4 | .fillP2 => 5

def PayMode.code : PayMode → Nat
  | .halt => 1 | .cont => 2 | .retry => 3 | .substitute => 4

def EngineState.code : EngineState → Nat
  | .idle => 0 | .running => 1 | .ending => 2

def Grant.code : Grant → Nat
  | .none => 0 | .waiting => 1 | .held => 2

def RunKind.code : RunKind → Nat
  | .skim => 1 | .skimTo => 2 | .testEject => 3

def RunOutcome.code : RunOutcome → Nat
  | .complete => 1 | .none => 2 | .store => 3 | .cashbox => 4 | .aborted => 5

def BoxState.code : BoxState → Nat
  | .ok => 1 | .nearFull => 2 | .full => 3 | .removed => 4

def LineState.code : LineState → Nat
  | .starting => 1 | .up => 2 | .lost => 3

def FaultCode.code : FaultCode → Nat
  | .noReply => 1 | .badOp => 2 | .jam => 3 | .door => 4 | .countLow => 5 | .countHigh => 6 | .doubleFeed => 7
  | .strayExit => 8 | .fillOverrun => 9 | .queueOverrun => 10 | .acceptorSilent => 11

def FaultSource.code : FaultSource → Nat
  | .engine e => engineCode e
  | .intake .p1 => 4 | .intake .p2 => 5
  | .reconciler => 6
  | .command => 7

def TubeOp.code : TubeOp → Nat
  | .status => 1 | .band => 2 | .divert _ => 3 | .eject => 4 | .result => 5 | .tally => 6 | .fillOpen => 7
  | .fillClose => 8 | .stageOn => 9 | .stageOff => 10 | .window _ => 11 | .clearAttn => 12

/-- The extra figure of a COUNT-HIGH by the held flag (R177, R210). -/
def heldExtra : Nat := 0xFF

/-- The loss reasons of ACCEPTOR-SILENT (R168, R210). -/
def silentReason : Nat := 1
def noIdentReason : Nat := 2
def badReportReason : Nat := 3

/-- Every command of R210's table. -/
def allCmds : List Cmd :=
  [.openRecord, .amend, .bind, .unbind, .handover, .voidRecord, .closeShort, .retire, .settle, .queryRecord,
    .listRecords, .pay, .abort, .skim, .skimTo, .testEject, .queryPoint, .clearUnclaimed, .floatBegin, .floatEnd,
    .queryStore, .disable, .enable, .setStore, .refillBegin, .refillEnd, .refillCancel, .queryCashbox, .readFault,
    .clearFault, .readEvents, .clearEvents, .setMask, .setPoint, .setSystem, .saveSetup, .readCause, .resetCommand]

/-- R186 steps 1 and 2, R190: whether a kind and code have a meaning. -/
def knownFrame (kind code : Byte) : Bool :=
  (kind == commandKind && allCmds.any (fun c => c.code == code))
    || (kind == qualifierKind && (code == asPointCode || code == quietCode))

/-! ## Frames (R210) -/

/-- A lane link frame: start, length, kind, code, body, and the check over all but the start. -/
def frameBytes (kind code : Byte) (body : List Byte) : List Byte :=
  let inner := BitVec.ofNat 8 body.length :: kind :: code :: body
  startByte :: (inner ++ [crc8 inner])

/-- The bytes of a reply frame: the status, then the contents (R185, R210). -/
def Reply.frame (r : Reply) : List Byte := frameBytes replyKind r.code (r.status.code :: r.contents)

/-- The argument of a tube bus request (R210). -/
def TubeOp.argument : TubeOp → List Byte
  | .divert d => [BitVec.ofNat 8 d.code]
  | .window w => [BitVec.ofNat 8 w]
  | _ => []

/-- The bytes of a request frame (R135, R210). -/
def Exchange.request (x : Exchange) : List Byte :=
  let inner := BitVec.ofNat 8 ((x.station.val + 1) * 16 + x.op.code) :: x.sequence.setWidth 8 :: x.op.argument
  inner ++ [crc8 inner]

/-- The bytes of the attention poll (R148, R210). -/
def pollRequest : List Byte := [0x00#8, crc8 [0x00#8]]

/-- The mark a module with raised attention sends in its slot (R210). -/
def attentionMark : Byte := 0xA5

/-- A mask as bits, bit i for the i-th denomination of the recognised set (R210). -/
def maskBits : List Nat → List Nat → Nat
  | [], _ => 0
  | d :: ds, mask => (if mask.contains d then 1 else 0) + 2 * maskBits ds mask

/-- The bytes of an acceptor-line message: start, length, type, body, and the check over every byte before it. The length
is the number of body bytes, without the type (DEDUCED, log 61). -/
def acceptorFrame (type : Byte) (body : List Byte) : List Byte :=
  let inner := startByte :: BitVec.ofNat 8 body.length :: type :: body
  inner ++ [crc8 inner]

/-- A message to the acceptor as bytes, with the recognised set its mask bits count in (R89, R210). -/
def AcceptorMessage.bytes (recognised : List Nat) : AcceptorMessage → List Byte
  | .identify => acceptorFrame 0x01 []
  | .maskUpdate mask => acceptorFrame 0x03 (bytesOf 2 (maskBits recognised mask))
  | .noted item => acceptorFrame 0x06 [item]
  | .release item => acceptorFrame 0x07 [item]

/-! ## Non-volatile memories (R202, R204) -/

def StoreCfg.bytes (c : StoreCfg) : List Byte :=
  [boolByte c.present, BitVec.ofNat 8 c.kind.code] ++ bytesOf 2 c.denomination ++ bytesOf 2 c.capacity
    ++ bytesOf 2 c.floor ++ bytesOf 2 c.low ++ bytesOf 2 c.high ++ bytesOf 2 c.routeLimit
    ++ [BitVec.ofNat 8 c.edge.code, BitVec.ofNat 8 c.window, boolByte c.staging]

def PointSetup.bytes (p : PointSetup) : List Byte :=
  [BitVec.ofNat 8 p.mode.code, boolByte p.short, BitVec.ofNat 8 p.retry, BitVec.ofNat 8 p.itemsLimit,
    BitVec.ofNat 8 p.inhibit]

def SystemSetup.bytes (y : SystemSetup) : List Byte :=
  [BitVec.ofNat 8 y.unit] ++ bytesOf 2 y.hold ++ bytesOf 2 y.boxCapacity ++ bytesOf 2 y.boxNearFull
    ++ bytesOf 2 y.attention.toNat

/-- R202: the bytes the set-up block's check covers: the stations in order, P1, P2, the system entry. -/
def SetupData.bytes (d : SetupData) : List Byte :=
  d.stations.toList.flatMap StoreCfg.bytes ++ d.points.p1.bytes ++ d.points.p2.bytes ++ d.system.bytes

/-- The block written with its check (R202). -/
def SetupBlock.sealed (d : SetupData) : SetupBlock := ⟨d, crc16 d.bytes⟩

/-- Whether the block passes its check (R203). -/
def SetupBlock.good (b : SetupBlock) : Bool := crc16 b.data.bytes == b.crc

/-- The block with a check that fails. -/
def SetupBlock.spoilt (b : SetupBlock) : SetupBlock := ⟨b.data, crc16 b.data.bytes ^^^ 1#16⟩

def StationCounts.bytes (c : StationCounts) : List Byte :=
  bytesOf 2 c.count ++ bytesOf 4 c.inTally.toNat ++ bytesOf 4 c.outTally.toNat ++ [c.moduleTally]
    ++ match c.ejectRecord with
      | none => [0#8, 0#8]
      | some r => [BitVec.ofNat 8 (engineCode r.engine), BitVec.ofNat 8 r.dest.code]

/-- The bytes a copy's check covers (R204). Their order is a DESIGN CHOICE (log 21). -/
def CountData.bytes (d : CountData) : List Byte :=
  bytesOf 4 d.number.toNat ++ d.stations.toList.flatMap StationCounts.bytes ++ bytesOf 2 d.boxCount
    ++ bytesOf 3 d.boxValue

/-- A copy written with its check (R204). -/
def CountCopy.sealed (d : CountData) : CountCopy := ⟨d, crc16 d.bytes⟩

/-- Whether the copy passes its check (R204). -/
def CountCopy.good (c : CountCopy) : Bool := crc16 c.data.bytes == c.crc

/-- The copy with a check that fails. -/
def CountCopy.spoilt (c : CountCopy) : CountCopy := ⟨c.data, crc16 c.data.bytes ^^^ 1#16⟩

end Sys2Proof.Machine
end

