-- ==== Sys2Proof/Decode.lean ====
section
/-! DEFINITION. From bytes to commands. No row of spec/opcode_table.json gives its command any bits, so decodeTableWord
reads none. The commands reach the block as lane link frames, tube bus replies and acceptor-line messages, whose
decoding R184, R186 and R210 give. -/

namespace Sys2Proof

open Sys2Proof.Machine

/-- The command a word of table bits spells: the table gives no row any bits, so no word spells one (log 30). -/
def decodeTableWord (_nbits _w : Nat) : Option Instr := none

/-! ## Fields of a body (R210) -/

/-- The value of the first k bytes of a list. -/
def takeNumber (k : Nat) (bs : List Byte) : Nat := numberOf (bs.take k)

/-- A body without bytes. -/
def noBody : List Byte → Body NoFields
  | [] => .fits {}
  | _ => .misfit

/-- A body of one byte. -/
def byteBody : List Byte → Body ByteFields
  | [b] => .fits ⟨b⟩
  | _ => .misfit

/-- LIST-RECORDS: from slot, 1 when missing. -/
def slotBody : List Byte → Body ByteFields
  | [] => .fits ⟨1#8⟩
  | [b] => .fits ⟨b⟩
  | _ => .misfit

/-- A body of a tag. -/
def tagBody : List Byte → Body TagFields
  | [a, b] => .fits ⟨a ++ b⟩
  | _ => .misfit

/-- A body of a tag and a point. -/
def tagPointBody : List Byte → Body TagPointFields
  | [a, b, p] => .fits ⟨a ++ b, p⟩
  | _ => .misfit

/-- OPEN: tag 2, kind 1, due 3. -/
def openBody : List Byte → Body OpenFields
  | [a, b, k, x, y, z] => .fits ⟨a ++ b, k, x ++ y ++ z⟩
  | _ => .misfit

/-- AMEND: tag 2, due 3. -/
def amendBody : List Byte → Body AmendFields
  | [a, b, x, y, z] => .fits ⟨a ++ b, x ++ y ++ z⟩
  | _ => .misfit

/-- QUERY-RECORD: tag 2, part 1, first entry 1, 0 when missing. -/
def queryRecordBody : List Byte → Body QueryRecordFields
  | [a, b, p] => .fits ⟨a ++ b, p, 0#8⟩
  | [a, b, p, n] => .fits ⟨a ++ b, p, n⟩
  | _ => .misfit

/-- SKIM and SKIM-TO: station 1, items or target 2. -/
def skimBody : List Byte → Body SkimFields
  | [i, a, b] => .fits ⟨i, a ++ b⟩
  | _ => .misfit

/-- QUERY-POINT: point 1, part 1, POINT when missing, first entry 1, 0 when missing. -/
def queryPointBody : List Byte → Body QueryPointFields
  | [p] => .fits ⟨p, 1#8, 0#8⟩
  | [p, q] => .fits ⟨p, q, 0#8⟩
  | [p, q, n] => .fits ⟨p, q, n⟩
  | _ => .misfit

/-- READ-FAULT and CLEAR-FAULT: bank kind 1, number 1. -/
def bankBody : List Byte → Body BankFields
  | [k, n] => .fits ⟨k, n⟩
  | _ => .misfit

/-- CLEAR-EVENTS and SET-MASK: kinds 2. -/
def kindsBody : List Byte → Body KindsFields
  | [a, b] => .fits ⟨a ++ b⟩
  | _ => .misfit

/-- A one-byte field of a field mask: its value when its bit is set, and the bytes left. -/
def byteField (given : Bool) (bs : List Byte) : Option Byte × List Byte :=
  if given then (bs.head?, bs.drop 1) else (none, bs)

/-- A two-byte field of a field mask. -/
def wordField (given : Bool) (bs : List Byte) : Option (BitVec 16) × List Byte :=
  if given then (some (BitVec.ofNat 16 (takeNumber 2 bs)), bs.drop 2) else (none, bs)

/-- The bytes a field mask calls for: the widths of the fields whose bits are set. -/
def maskLength (mask : Nat) (widths : List Nat) : Nat :=
  ((List.range widths.length).map (fun i => if mask.testBit i then widths.getD i 0 else 0)).sum

/-- SET-STORE: station 1, field mask 2, and the fields given in the mask's order. -/
def setStoreBody : List Byte → Body SetStoreFields
  | i :: a :: b :: rest =>
    let m : BitVec 16 := a ++ b
    if 4096 ≤ m.toNat ∨ rest.length ≠ maskLength m.toNat [1, 1, 2, 2, 2, 2, 2, 2, 1, 1, 1, 0] then .misfit
    else
      let (present, rest) := byteField (m.getLsbD 0) rest
      let (kind, rest) := byteField (m.getLsbD 1) rest
      let (denomination, rest) := wordField (m.getLsbD 2) rest
      let (capacity, rest) := wordField (m.getLsbD 3) rest
      let (floor, rest) := wordField (m.getLsbD 4) rest
      let (low, rest) := wordField (m.getLsbD 5) rest
      let (high, rest) := wordField (m.getLsbD 6) rest
      let (routeLimit, rest) := wordField (m.getLsbD 7) rest
      let (edge, rest) := byteField (m.getLsbD 8) rest
      let (window, rest) := byteField (m.getLsbD 9) rest
      let (staging, _) := byteField (m.getLsbD 10) rest
      .fits ⟨i, present, kind, denomination, capacity, floor, low, high, routeLimit, edge, window, staging, m.getLsbD 11⟩
  | _ => .misfit

/-- SET-POINT: point 1, field mask 1, and the fields given. -/
def setPointBody : List Byte → Body SetPointFields
  | p :: m :: rest =>
    if 32 ≤ m.toNat ∨ rest.length ≠ maskLength m.toNat [1, 1, 1, 1, 1] then .misfit
    else
      let (mode, rest) := byteField (m.getLsbD 0) rest
      let (short, rest) := byteField (m.getLsbD 1) rest
      let (retry, rest) := byteField (m.getLsbD 2) rest
      let (items, rest) := byteField (m.getLsbD 3) rest
      let (inhibit, _) := byteField (m.getLsbD 4) rest
      .fits ⟨p, mode, short, retry, items, inhibit⟩
  | _ => .misfit

/-- SET-SYSTEM: field mask 1, and the fields given. -/
def setSystemBody : List Byte → Body SetSystemFields
  | m :: rest =>
    if 32 ≤ m.toNat ∨ rest.length ≠ maskLength m.toNat [1, 2, 2, 2, 2] then .misfit
    else
      let (unit, rest) := byteField (m.getLsbD 0) rest
      let (hold, rest) := wordField (m.getLsbD 1) rest
      let (capacity, rest) := wordField (m.getLsbD 2) rest
      let (nearFull, rest) := wordField (m.getLsbD 3) rest
      let (attention, _) := wordField (m.getLsbD 4) rest
      .fits ⟨unit, hold, capacity, nearFull, attention⟩
  | _ => .misfit

/-! ## Lane link frames (R184, R186, R210) -/

/-- A COMMAND frame's command by its code and body. write is what the set-up memory does with a SAVE-SETUP. -/
def decodeCommand (port : PortId) (write : WriteOutcome) (code : Byte) (body : List Byte) : Instr :=
  match code.toNat with
  | 0x10 => .openRecord port (openBody body)
  | 0x11 => .amend port (amendBody body)
  | 0x12 => .bind port (tagPointBody body)
  | 0x13 => .unbind port (tagBody body)
  | 0x14 => .handover port (tagPointBody body)
  | 0x15 => .voidRecord port (tagBody body)
  | 0x16 => .closeShort port (tagBody body)
  | 0x17 => .retire port (tagBody body)
  | 0x18 => .settle port (tagBody body)
  | 0x19 => .queryRecord port (queryRecordBody body)
  | 0x1A => .listRecords port (slotBody body)
  | 0x20 => .pay port (tagBody body)
  | 0x21 => .abort port (byteBody body)
  | 0x22 => .skim port (skimBody body)
  | 0x23 => .skimTo port (skimBody body)
  | 0x24 => .testEject port (byteBody body)
  | 0x30 => .queryPoint port (queryPointBody body)
  | 0x31 => .clearUnclaimed port (byteBody body)
  | 0x32 => .floatBegin port (byteBody body)
  | 0x33 => .floatEnd port (byteBody body)
  | 0x40 => .queryStore port (byteBody body)
  | 0x41 => .disable port (byteBody body)
  | 0x42 => .enable port (byteBody body)
  | 0x43 => .setStore port (setStoreBody body)
  | 0x44 => .refillBegin port (byteBody body)
  | 0x45 => .refillEnd port (byteBody body)
  | 0x46 => .refillCancel port (byteBody body)
  | 0x50 => .queryCashbox port (noBody body)
  | 0x51 => .readFault port (bankBody body)
  | 0x52 => .clearFault port (bankBody body)
  | 0x60 => .readEvents port (noBody body)
  | 0x61 => .clearEvents port (kindsBody body)
  | 0x62 => .setMask port (kindsBody body)
  | 0x70 => .setPoint port (setPointBody body)
  | 0x71 => .setSystem port (setSystemBody body)
  | 0x72 => .saveSetup port (noBody body) write
  | 0x73 => .readCause port (noBody body)
  | 0x74 => .resetCommand port (noBody body)
  | _ => .unknown port commandKind code

/-- R186 step 1, R190: a whole frame with a good check by its kind. -/
def decodeKind (port : PortId) (write : WriteOutcome) (kind code : Byte) (body : List Byte) : Instr :=
  if kind = commandKind then decodeCommand port write code body
  else if kind = qualifierKind then
    if code = asPointCode then .asPoint port (byteBody body)
    else if code = quietCode then .quiet port (noBody body)
    else .unknown port kind code
  else .unknown port kind code

/-- R184: the command a frame's bytes are, from the start byte to the check; none for bytes that are no whole frame. -/
def decodeFrame (port : PortId) (write : WriteOutcome) : List Byte → Option Instr
  | start :: length :: rest =>
    if start ≠ startByte then none
    else if 40 < length.toNat then some (.lengthSilence port length)
    else
      match rest with
      | kind :: code :: tail =>
        if tail.length ≠ length.toNat + 1 then none
        else
          let body := tail.take length.toNat
          if tail.getLast? = some (crc8 (length :: kind :: code :: body)) then
            some (decodeKind port write kind code body)
          else some (.check port code)
      | _ => none
  | _ => none

/-! ## Tube bus replies (R135, R136, R210) -/

/-- The gate position a byte codes. -/
def gateOf (b : Byte) : Option Gate :=
  match b.toNat with
  | 0 => some .unset
  | 1 => some .cupP1
  | 2 => some .cupP2
  | 3 => some .cashbox
  | _ => none

/-- The band a byte codes. -/
def bandOf (b : Byte) : Option Band :=
  match b.toNat with
  | 1 => some .empty
  | 2 => some .low
  | 3 => some .mid
  | 4 => some .high
  | 5 => some .full
  | _ => none

/-- The outcome and held flag of a final RESULT. -/
def outcomeOf (b : Byte) : Option (EjectOutcome × Bool) :=
  match (b &&& 0x7F#8).toNat with
  | 1 => some (.item, b.getLsbD 7)
  | 2 => some (.double, b.getLsbD 7)
  | 3 => some (.none, b.getLsbD 7)
  | _ => none

/-- A reply with TAKEN by the operation it answers; startUp says that the exchange belongs to start-up reconciliation. A
form that R139 to R143 mark as not given, contents of another length and a code byte without a meaning are no reply
(DESIGN CHOICE, log 56). Bits 0 to 4 of a STATUS flags byte, which the tables give no meaning, are not looked at, and a
fill tally above 2,000 is taken as it stands (DESIGN CHOICE, log 76). -/
def decodeReplyOp (startUp : Bool) (station : BitVec 4) (op : TubeOp) (done : Bool) (contents : List Byte) :
    Option Instr :=
  match op, done, contents with
  | .status, true, [f, g] =>
    (gateOf g).map (fun gate =>
      if startUp then .ejectReconciliation station (.status (f.getLsbD 7) (f.getLsbD 6) (f.getLsbD 5) gate)
      else .status station (f.getLsbD 7) (f.getLsbD 6) (f.getLsbD 5) gate)
  | .tally, true, [v, g] =>
    (gateOf g).map (fun gate =>
      if startUp then .ejectReconciliation station (.tally v gate) else .tally station v gate)
  | .band, true, [b] => (bandOf b).map (fun band => .band station (some band))
  | .band, false, [] => some (.band station none)
  | .divert .fillP1, _, [] => some (.divertFill station done)
  | .divert .fillP2, _, [] => some (.divertFill station done)
  | .divert _, _, [] => some (.divert station done)
  | .eject, _, [] => some (.eject station done)
  | .result, true, [b] =>
    (outcomeOf b).map (fun final =>
      if startUp then .ejectReconciliation station (.result (some final)) else .result station (some final))
  | .result, false, [] =>
    some (if startUp then .ejectReconciliation station (.result none) else .result station none)
  | .fillOpen, _, [] => some (.fillOpen station done)
  | .fillClose, true, [a, b] => some (.fillClose station (a ++ b))
  | .stageOn, true, [] => some (.stageOn station)
  | .stageOff, true, [] => some (.stageOff station)
  | .window _, true, [] => some (.window station)
  | .clearAttn, true, [] => some (.clearAttn station)
  | _, _, _ => none

/-- R136: a reply frame to a request: none when it does not count, its check bad, its header another's or its contents
cut short; BAD_OP without TAKEN. A header that names the station addressed but another operation does not echo the
request's (R210) and is no reply either, with TAKEN or without (DESIGN CHOICE, log 57). Bits 0 to 5 of the flags byte,
which the tables give no meaning, are not looked at (DESIGN CHOICE, log 76). -/
def decodeReply (startUp : Bool) (station : Station) (op : TubeOp) : List Byte → Option Instr
  | header :: flags :: rest =>
    let contents := rest.dropLast
    if rest.getLast? ≠ some (crc8 (header :: flags :: contents)) then none
    else if header ≠ BitVec.ofNat 8 ((station.val + 1) * 16 + op.code) then none
    else if flags.getLsbD 7 then decodeReplyOp startUp (BitVec.ofNat 4 (station.val + 1)) op (flags.getLsbD 6) contents
    else some (.badOp (BitVec.ofNat 4 (station.val + 1)))
  | _ => none

/-! ## Acceptor-line messages (R89, R210) -/

/-- n denominations of two bytes each, and the bytes left. -/
def takeDenominations : Nat → List Byte → Option (List (BitVec 16) × List Byte)
  | 0, bs => some ([], bs)
  | n + 1, a :: b :: bs => (takeDenominations n bs).map (fun x => ((a ++ b) :: x.1, x.2))
  | _ + 1, _ => none

/-- m held items of three bytes each. -/
def takeHeldItems : Nat → List Byte → Option (List (Byte × BitVec 16))
  | 0, [] => some []
  | 0, _ => none
  | m + 1, i :: a :: b :: bs => (takeHeldItems m bs).map (fun x => (i, a ++ b) :: x)
  | _ + 1, _ => none

/-- The body of an IDENT. -/
def decodeIdent (point : PointId) : List Byte → Option Instr
  | n :: bs =>
    match takeDenominations n.toNat bs with
    | some (ds, m :: rest) => (takeHeldItems m.toNat rest).map (fun held => .ident point ds held)
    | _ => none
  | _ => none

/-- A message from the acceptor with a good check, by its type. -/
def decodeAcceptorType (point : PointId) (type : Byte) (body : List Byte) : Option Instr :=
  match type.toNat, body with
  | 0x02, bs => decodeIdent point bs
  | 0x04, [a, b] => some (.maskHeld point (a ++ b))
  | 0x05, [i, a, b, c] => some (.accepted point i (a ++ b ++ c))
  | _, _ => none

/-- An acceptor-line message: start, length, type, body, and the check over every byte before it. The length is the
number of body bytes, without the type (DEDUCED, log 61). -/
def decodeAcceptor (point : PointId) : List Byte → Option Instr
  | start :: length :: type :: rest =>
    if start ≠ startByte ∨ rest.length ≠ length.toNat + 1 then none
    else
      let body := rest.take length.toNat
      if rest.getLast? = some (crc8 (start :: length :: type :: body)) then decodeAcceptorType point type body
      else some (.acceptorBadCheck point)
  | _ => none

end Sys2Proof
end

