-- ==== Sys2Proof/Config.lean ====
section
/-! DEFINITION. The values the manual leaves open. They have no body: nothing can be proved of their value. -/

namespace Sys2Proof

/-- The byte sent where R210 and R211 give a report a place for a field that is absent and state no value for it,
and the code byte of a CHECK reply to a frame whose code byte was never received (R184, R185).
The first argument is State.free, which advances with every reply formed; the second is the byte's place. -/
opaque Config.filler : Nat → Nat → Byte

end Sys2Proof
end

