-- ==== Sys2Proof/Machine/Operands.lean ====
section
/-! DEFINITION. The raw operand forms of the commands and what they name (R210). -/

namespace Sys2Proof.Machine

/-- The top of the money range of records and points (00 Conventions, R27). -/
def moneyMax : Nat := 99999

/-- A sum that stops at the top of the money range (R29, R31, R102). -/
def saturate (n : Nat) : Nat := min n moneyMax

/-- A value placed in the range lo to hi (R5, R164, R200, R201). -/
def clamp (lo hi n : Nat) : Nat := min (max n lo) hi

/-- The station a byte names (R1): 1 to 12. -/
def stationOf (b : Byte) : Option Station :=
  if h : 1 ≤ b.toNat ∧ b.toNat ≤ 12 then some ⟨b.toNat - 1, by omega⟩ else none

/-- The station number a reply's header names (R210). -/
def replyStation (b : BitVec 4) : Option Station := stationOf (b.setWidth 8)

/-- The slot a byte names (R48): 1 to 24. -/
def slotOf (b : Byte) : Option Slot :=
  if h : 1 ≤ b.toNat ∧ b.toNat ≤ 24 then some ⟨b.toNat - 1, by omega⟩ else none

/-- The point a byte names (R210). -/
def pointOf (b : Byte) : Option PointId :=
  if b = 1#8 then some .p1 else if b = 2#8 then some .p2 else none

/-- The engine a byte names (R210). -/
def engineOf (b : Byte) : Option EngineId :=
  if b = 1#8 then some .p1 else if b = 2#8 then some .p2 else if b = 3#8 then some .m else none

/-- The kind of a record (R210). -/
def recKindOf (b : Byte) : Option RecKind :=
  if b = 1#8 then some .sale else if b = 2#8 then some .refund else none

/-- The kind of a store (R210). -/
def storeKindOf (b : Byte) : Option StoreKind :=
  if b = 0#8 then some .coin else if b = 1#8 then some .note else none

/-- The edge direction (R210). -/
def edgeOf (b : Byte) : Option EdgeDir :=
  if b = 1#8 then some .enter else if b = 2#8 then some .leave else if b = 3#8 then some .both else none

/-- The payout mode (R210). -/
def payModeOf (b : Byte) : Option PayMode :=
  if b = 1#8 then some .halt else if b = 2#8 then some .cont else if b = 3#8 then some .retry
  else if b = 4#8 then some .substitute else none

/-- A yes or no (DEDUCED: 1 is yes and 0 is no, log 20). -/
def boolOf (b : Byte) : Option Bool :=
  if b = 1#8 then some true else if b = 0#8 then some false else none

/-- Whether an optional byte is absent or has a meaning under the given code. -/
def fieldFits {α : Type} (code : Byte → Option α) : Option Byte → Bool
  | none => true
  | some b => (code b).isSome

/-- The value of an optional byte under its code. -/
def fieldValue {α : Type} (code : Byte → Option α) (f : Option Byte) : Option α := f.bind code

/-- The value of an optional two-byte number. -/
def numberField (f : Option (BitVec 16)) : Option Nat := f.map BitVec.toNat

/-- An engine's own cup, or the cashbox for engine M (R113, R132). -/
def engineDest : EngineId → Dest
  | .p1 => .cupP1
  | .p2 => .cupP2
  | .m => .cashbox

/-- The fill destination of a point's intake chute (R94, R140). -/
def fillDest : PointId → Dest
  | .p1 => .fillP1
  | .p2 => .fillP2

/-- The engine of a service point (R109). -/
def pointEngine : PointId → EngineId
  | .p1 => .p1
  | .p2 => .p2

/-- The other service point. -/
def otherPoint : PointId → PointId
  | .p1 => .p2
  | .p2 => .p1

/-- The point whose PAY and ABORT a port may send without AS-POINT (R187). -/
def ownPoint : PortId → Option PointId
  | .a => some .p1
  | .b => some .p2
  | .m => none

/-- The stations of a set in ascending order. -/
def stationsOf (set : BitVec 12) : List Station := allStations.filter (fun i => set.getLsbD i.val)

/-- The set of one station. -/
def stationBit (i : Station) : BitVec 12 := BitVec.twoPow 12 i.val

/-- The set without one station. -/
def dropStation (set : BitVec 12) (i : Station) : BitVec 12 := set &&& ~~~ stationBit i

end Sys2Proof.Machine
end

