-- ==== Sys2Proof/Machine/Flags.lean ====
section
/-! DEFINITION. What is computed from figures: the threshold chain, the level flags and their edges, the band ranges,
the cashbox monitor's state, and the rounding of owed. -/

namespace Sys2Proof.Machine

/-! ## Thresholds and level flags (R5 to R9) -/

/-- R5: the capacity and the threshold chain brought into order, from the top of the chain downward, with the store's
count raising the capacity. The eject window is in units of 10 ms. -/
def StoreCfg.ordered (count : Nat) (c : StoreCfg) : StoreCfg :=
  let capacity := max (clamp 1 2000 c.capacity) count
  let routeLimit := clamp 1 capacity c.routeLimit
  let high := clamp 1 routeLimit c.high
  { c with
    capacity := capacity
    routeLimit := routeLimit
    high := high
    low := clamp 0 (high - 1) c.low
    floor := clamp 0 capacity c.floor
    window := clamp 10 200 c.window }

/-- R6: LOW, HIGH and NEAR-FULL from count and the thresholds. -/
def Store.levelled (r : Store) : Store :=
  { r with
    low := decide (r.count ≤ r.cfg.low)
    high := decide (r.cfg.high ≤ r.count)
    nearFull := decide (r.cfg.routeLimit ≤ r.count) }

/-- R7: whether the change from one record of a store to the next has an ENTER edge. -/
def enterEdge (a b : Store) : Bool := (!a.low && b.low) || (!a.high && b.high)

/-- R7: whether the change from one record of a store to the next has a LEAVE edge. -/
def leaveEdge (a b : Store) : Bool := (a.low && !b.low) || (a.high && !b.high)

/-- R7: whether the edges of a change latch STORE-LEVEL under the store's edge direction. -/
def edgeLatches (a b : Store) : Bool :=
  match b.cfg.edge with
  | .enter => enterEdge a b
  | .leave => leaveEdge a b
  | .both => enterEdge a b || leaveEdge a b

/-- ACTIVE or EMPTY by count. -/
def workingState (count : Nat) : StoreState := if count = 0 then .empty else .active

/-- R8: whether a store is ACTIVE or EMPTY. -/
def Store.working (r : Store) : Bool := r.state = .active || r.state = .empty

/-- R9: the ACTIVE/EMPTY decision, made while the store is ACTIVE or EMPTY. -/
def Store.decided (r : Store) : Store := if r.working then { r with state := workingState r.count } else r

/-- A new count with everything of R3's first two effects: the level flags (R6), the ACTIVE/EMPTY decision (R9), and
HELD cleared when count becomes 0 (R9). -/
def Store.counted (n : Nat) (r : Store) : Store :=
  ({ r with count := n, held := if n = 0 ∧ r.count ≠ 0 then false else r.held }).levelled.decided

/-! ## Usability and availability (R14, R15) -/

/-- R14: usable for planning. -/
def Store.usable (r : Store) : Bool := r.working && !r.unverified

/-- R14: accepts recycled items. -/
def Store.accepts (r : Store) : Bool := r.working && !r.nearFull && !r.unverified

/-- R15: the free count, 0 for a store not usable. -/
def Store.freeCount (r : Store) : Nat := if r.usable then r.count - r.reserved else 0

/-- R15: first-pass availability. -/
def Store.firstPass (r : Store) : Nat := r.freeCount - r.cfg.floor

/-- R15: second-pass availability. -/
def Store.secondPass (r : Store) : Nat := r.freeCount

/-! ## Level bands (R172) -/

/-- R172: the lower bound of a band. -/
def bandLower (c : StoreCfg) : Band → Nat
  | .empty => 0
  | .low => 1
  | .mid => c.low + 1
  | .high => c.high
  | .full => c.routeLimit

/-- R172: the upper bound of a band; an empty range is taken with the lower bound as both bounds. -/
def bandUpper (c : StoreCfg) (b : Band) : Nat :=
  max (bandLower c b)
    (match b with
      | .empty => 0
      | .low => c.low
      | .mid => c.high - 1
      | .high => c.routeLimit - 1
      | .full => c.capacity)

/-! ## Cashbox (R160, R163) -/

/-- R160: the monitor's state from presence, count, capacity and near-full level. -/
def boxState (capacity nearFull : Nat) (presence : Presence) (count : Nat) : BoxState :=
  match presence with
  | .out => .removed
  | .inPlace => if capacity ≤ count then .full else if nearFull ≤ count then .nearFull else .ok

/-- R163: the events of a change of the monitor's state. -/
def boxEvents : BoxState → BoxState → List Event
  | .ok, .nearFull => [.cashboxNearFull]
  | .ok, .full => [.cashboxNearFull, .cashboxFull]
  | .nearFull, .full => [.cashboxFull]
  | .removed, .removed => []
  | _, .removed => [.cashboxRemoved]
  | _, _ => []

/-! ## Rounding (R51) -/

/-- R51: a value rounded to the rounding unit U, ties to the higher multiple, never above 99,999. -/
def roundTo (u v : Nat) : Nat :=
  let lower := v / u * u
  let higher := lower + u
  let nearer := if v = lower then lower else if v - lower < higher - v then lower else higher
  if moneyMax < nearer then lower else nearer

/-- R30: owed, absent for a SALE record with tendered below due. -/
def owedOf (u : Nat) (kind : RecKind) (due tendered : Nat) : Option Nat :=
  match kind with
  | .sale => if due ≤ tendered then some (roundTo u (tendered - due)) else none
  | .refund => some (roundTo u due)

/-! ## Derived figures of a record (R27, R31) -/

/-- R27: remaining, present while owed is. -/
def Rec.remaining (r : Rec) : Option Nat := r.owed.map (· - r.paid)

/-- R27: overpaid, present while non-zero. -/
def Rec.overpaid (r : Rec) : Nat := r.paid - r.owed.getD r.paid

/-- R27: balance due of a SALE record with tendered below due. -/
def Rec.balanceDue (r : Rec) : Nat :=
  match r.kind with
  | .sale => r.due - r.tendered
  | .refund => 0

/-! ## Severities (R168) -/

/-- R168: whether a code's severity is UNCORRECTED. -/
def FaultCode.uncorrected : FaultCode → Bool
  | .noReply | .badOp | .jam | .door | .acceptorSilent => true
  | .countLow | .countHigh | .doubleFeed | .strayExit | .fillOverrun | .queueOverrun => false

/-- R169: a fault taken by a bank. -/
def Bank.take (b : Bank) (f : Capture) : Bank :=
  match b.capture with
  | none => ⟨false, some f⟩
  | some c => if !c.code.uncorrected && f.code.uncorrected then ⟨true, some f⟩ else ⟨true, some c⟩

end Sys2Proof.Machine
end

