-- ==== Sys2Proof/Machine/State.lean ====
section
/-! DEFINITION. The state of the CP-12 as plain data, and the machine right after reset. -/

namespace Sys2Proof.Machine

/-- The state of the CP-12. -/
structure State where
  /-- The commands that wait, the front first (the task's own field). -/
  pending : List Instr
  /-- The time count (R205). -/
  time : Time
  records : Vector (Option Rec) 24
  stores : Vector Store 12
  points : Pair Point
  engines : Triple Engine
  bus : Bus
  reconciler : Reconciler
  storeBanks : Vector Bank 12
  pointBanks : Pair Bank
  cashbox : Cashbox
  ports : Triple Port
  /-- The points' entries of the working copy (R199); the stations' entries are the stores' configured fields. -/
  pointSetup : Pair PointSetup
  /-- The system entry of the working copy (R199). -/
  system : SystemSetup
  setupBlock : SetupBlock
  unsaved : Bool
  setupFault : Bool
  countMemory : CountMemory
  countLost : Bool
  causes : Causes
  startUp : StartUp
  /-- The counter of free values: the model's own field. -/
  free : Nat
deriving DecidableEq, Repr

/-- No meaning of this model ends in a fault: the manual gives every command an effect or a refusal STATUS (R189), and
both are next states. The type has no constructor. -/
inductive Fault where
deriving DecidableEq, Repr

/-- Why a command has no meaning here. -/
inductive Refusal where
  /-- Raised by an arm of exec whose command has no meaning yet, and by nothing else. Safe: the machine stops. -/
  | notModelled (mnemonic : String)
deriving DecidableEq, Repr

/-! ## Values of reset -/

/-- R24: the factory default of a station's entry. -/
def StoreCfg.factory : StoreCfg where
  present := false
  kind := .coin
  denomination := 1
  capacity := 100
  floor := 0
  low := 10
  high := 80
  routeLimit := 90
  edge := .both
  window := 30
  staging := false

/-- R199: the factory default of a point's entry. -/
def PointSetup.factory : PointSetup where
  mode := .cont
  short := false
  retry := 3
  itemsLimit := 40
  inhibit := 12

/-- R199: the factory default of the system entry. -/
def SystemSetup.factory : SystemSetup where
  unit := 5
  hold := 180
  boxCapacity := 1500
  boxNearFull := 1350
  attention := BitVec.allOnes 12

/-- R199: the factory defaults, every station absent. -/
def SetupData.factory : SetupData where
  stations := Vector.replicate 12 StoreCfg.factory
  points := ⟨PointSetup.factory, PointSetup.factory⟩
  system := SystemSetup.factory

/-- R23 with a blank count memory: an absent station's store right after POWER. -/
def Store.reset : Store where
  cfg := StoreCfg.factory
  count := 0
  reserved := 0
  inTally := 0
  outTally := 0
  state := .disabled
  unverified := true
  low := true
  high := false
  nearFull := false
  held := false
  holder := none
  waiting := []
  burst := 0
  moduleTally := 0
  bandLast := none
  lastRouted := none
  settingsDue := false
  settingsUnset := false
  sequence := 0
  ejectRecord := none

/-- R108: a point right after POWER. -/
def Point.reset : Point where
  binding := .none
  line := .starting
  recognised := none
  mask := []
  maskSent := none
  lastNoted := none
  queue := []
  routeOut := none
  releaseOwed := []
  unclaimed := 0
  watch := none
  maskSentAt := none
  sent := []

/-- R134: an engine right after any reset: IDLE, with every other field removed. -/
def Engine.reset : Engine where
  state := .idle
  record := none
  mode := none
  retry := 0
  station := none
  grant := .none
  outstanding := none
  planItems := 0
  excluded := 0
  bandAwaited := none
  run := none
  lastRun := none
  needs := none
  repeats := 0
  released := (0, 0)
  endCause := none

/-- R146, R148, R150: the bus right after any reset. The end of the last SERVICE is forgotten (DESIGN CHOICE, log 63). -/
def Bus.reset : Bus where
  holder := none
  round := []
  waiting := []
  exchange := none
  polling := false
  poller := .quiet
  pollMap := 0
  serviceLeft := 0
  serviceEnd := none

/-- R167: an empty bank. -/
def Bank.empty : Bank where
  overflow := false
  capture := none

/-- R198: a port right after any reset, with RESTART latched and every kind in its mask. -/
def Port.reset : Port where
  assembly := .idle
  lastByteAt := none
  replyOwed := none
  reply := none
  asPoint := none
  quiet := false
  latched := 0x4000
  mask := 0x7FFF

/-- A station's part of a blank count memory. -/
def StationCounts.blank : StationCounts where
  count := 0
  inTally := 0
  outTally := 0
  moduleTally := 0
  ejectRecord := none

/-- A blank copy of count memory with the given write number and a good check. -/
def CountCopy.blank (number : BitVec 32) : CountCopy :=
  CountCopy.sealed ⟨number, Vector.replicate 12 StationCounts.blank, 0, 0⟩

/-- The machine right after a POWER reset whose set-up block holds the factory defaults with a good check and whose
count memory is blank and good (DESIGN CHOICE, unsafe, log 2). Start-up has begun (R207). -/
def State.reset : State where
  pending := []
  time := 0
  records := Vector.replicate 24 none
  stores := Vector.replicate 12 Store.reset
  points := ⟨Point.reset, Point.reset⟩
  engines := ⟨Engine.reset, Engine.reset, Engine.reset⟩
  bus := Bus.reset
  reconciler := ⟨[], []⟩
  storeBanks := Vector.replicate 12 Bank.empty
  pointBanks := ⟨Bank.empty, Bank.empty⟩
  cashbox := ⟨0, 0, 0, 0, .inPlace, .ok⟩
  ports := ⟨Port.reset, Port.reset, Port.reset⟩
  pointSetup := ⟨PointSetup.factory, PointSetup.factory⟩
  system := SystemSetup.factory
  setupBlock := SetupBlock.sealed SetupData.factory
  unsaved := false
  setupFault := false
  countMemory := ⟨CountCopy.blank 0, CountCopy.blank 0xFFFFFFFF, true⟩
  countLost := false
  causes := ⟨true, false, false, false⟩
  startUp := ⟨false, true, 0, false⟩
  free := 0

end Sys2Proof.Machine
end

