-- ==== Sys2Proof/Machine/Ops.lean ====
section
/-! DEFINITION. The named operations over the state: reading and writing each table, latching events, presenting
faults, changing a count, counting into the cashbox, writing count memory, and releasing reservations. -/

namespace Sys2Proof.Machine

/-- What a meaning answers. -/
abbrev Answer := Host.Outcome State Fault Refusal

/-! ## Reading and writing the tables -/

def pairGet {α : Type} (x : Pair α) : PointId → α
  | .p1 => x.p1
  | .p2 => x.p2

def pairPut {α : Type} (x : Pair α) (p : PointId) (a : α) : Pair α :=
  match p with
  | .p1 => { x with p1 := a }
  | .p2 => { x with p2 := a }

def engineGet {α : Type} (x : Triple α) : EngineId → α
  | .p1 => x.first
  | .p2 => x.second
  | .m => x.third

def enginePut {α : Type} (x : Triple α) (e : EngineId) (a : α) : Triple α :=
  match e with
  | .p1 => { x with first := a }
  | .p2 => { x with second := a }
  | .m => { x with third := a }

def portGet {α : Type} (x : Triple α) : PortId → α
  | .a => x.first
  | .b => x.second
  | .m => x.third

def portPut {α : Type} (x : Triple α) (p : PortId) (a : α) : Triple α :=
  match p with
  | .a => { x with first := a }
  | .b => { x with second := a }
  | .m => { x with third := a }

def State.store (s : State) (i : Station) : Store := s.stores[i.val]'i.isLt
def State.setStore (s : State) (i : Station) (r : Store) : State := { s with stores := s.stores.set i.val r i.isLt }
def State.updStore (s : State) (i : Station) (f : Store → Store) : State := s.setStore i (f (s.store i))

/-- The record in a slot, or none when the slot is free (R25). -/
def State.slot (s : State) (i : Slot) : Option Rec := s.records[i.val]'i.isLt
def State.setSlot (s : State) (i : Slot) (r : Option Rec) : State := { s with records := s.records.set i.val r i.isLt }

/-- A change of the live record in a slot. -/
def State.updRec (s : State) (i : Slot) (f : Rec → Rec) : State :=
  match s.slot i with
  | some r => s.setSlot i (some (f r))
  | none => s

def State.point (s : State) (p : PointId) : Point := pairGet s.points p
def State.setPoint (s : State) (p : PointId) (x : Point) : State := { s with points := pairPut s.points p x }
def State.updPoint (s : State) (p : PointId) (f : Point → Point) : State := s.setPoint p (f (s.point p))

def State.engine (s : State) (e : EngineId) : Engine := engineGet s.engines e
def State.setEngine (s : State) (e : EngineId) (x : Engine) : State := { s with engines := enginePut s.engines e x }
def State.updEngine (s : State) (e : EngineId) (f : Engine → Engine) : State := s.setEngine e (f (s.engine e))

def State.port (s : State) (p : PortId) : Port := portGet s.ports p
def State.setPort (s : State) (p : PortId) (x : Port) : State := { s with ports := portPut s.ports p x }
def State.updPort (s : State) (p : PortId) (f : Port → Port) : State := s.setPort p (f (s.port p))

def State.storeBank (s : State) (i : Station) : Bank := s.storeBanks[i.val]'i.isLt
def State.setStoreBank (s : State) (i : Station) (b : Bank) : State :=
  { s with storeBanks := s.storeBanks.set i.val b i.isLt }
def State.pointBank (s : State) (p : PointId) : Bank := pairGet s.pointBanks p
def State.setPointBank (s : State) (p : PointId) (b : Bank) : State := { s with pointBanks := pairPut s.pointBanks p b }

def State.setTime (s : State) (t : Time) : State := { s with time := t }
def State.setCashbox (s : State) (c : Cashbox) : State := { s with cashbox := c }
def State.setBus (s : State) (b : Bus) : State := { s with bus := b }
def State.setReconciler (s : State) (r : Reconciler) : State := { s with reconciler := r }
def State.setCountMemory (s : State) (m : CountMemory) : State := { s with countMemory := m }
def State.setStartUp (s : State) (u : StartUp) : State := { s with startUp := u }
def State.setFree (s : State) (n : Nat) : State := { s with free := n }
def State.setPending (s : State) (q : List Instr) : State := { s with pending := q }

/-- R199: the point's entry of the working copy. -/
def State.setup (s : State) (p : PointId) : PointSetup := pairGet s.pointSetup p

/-! ## Records, tags and points -/

/-- R25: the map from a tag to the live record that has it. -/
def State.findTag (s : State) (tag : Nat) : Option Slot :=
  allSlots.find? (fun i => (s.slot i).any (fun r => r.tag == tag))

/-- The record with a tag, with its slot. -/
def State.lookup (s : State) (tag : Nat) : Option (Slot × Rec) :=
  match s.findTag tag with
  | none => none
  | some i => (s.slot i).map (fun r => (i, r))

/-- R27: a record's point, the point bound to its tag. -/
def State.pointOf (s : State) (tag : Nat) : Option PointId :=
  if s.points.p1.binding = .record tag then some .p1
  else if s.points.p2.binding = .record tag then some .p2
  else none

def State.setBinding (s : State) (p : PointId) (b : Binding) : State := s.updPoint p (fun x => { x with binding := b })

/-- R40 to R46: the record's point, if any, becomes unbound. -/
def State.unbindTag (s : State) (tag : Nat) : State :=
  match s.pointOf tag with
  | some p => s.setBinding p .none
  | none => s

/-- The live records in slot order. -/
def State.liveRecords (s : State) : List (Slot × Rec) :=
  allSlots.filterMap (fun i => (s.slot i).map (fun r => (i, r)))

/-- R46: the slot is freed, the tag leaves the map, and its point becomes unbound. -/
def State.freeSlot (s : State) (i : Slot) : State :=
  match s.slot i with
  | some r => (s.unbindTag r.tag).setSlot i none
  | none => s

/-! ## Events (R194, R195) -/

/-- R194: a kind added to the port's latched set, unless QUIET keeps it out of this port (R193). -/
def Port.latch (x : Port) (k : Event) (keptOut : Bool) : Port :=
  if keptOut then x else { x with latched := x.latched ||| k.mask }

/-- R194: a kind added to the latched set of each port but the one that QUIET keeps it out of (R193). -/
def State.latch (s : State) (k : Event) (except : Option PortId) : State :=
  { s with ports := ⟨s.ports.first.latch k (except == some .a), s.ports.second.latch k (except == some .b),
    s.ports.third.latch k (except == some .m)⟩ }

/-- Several kinds latched in turn. -/
def State.latchAll (s : State) (ks : List Event) (except : Option PortId) : State :=
  ks.foldl (fun s k => s.latch k except) s

/-- R195: the port's attention line, active while its latched set and its event mask have a kind in common. -/
def Port.attention (x : Port) : Bool := x.latched &&& x.mask != 0#16

/-- R197: whether the condition of a level-type kind holds. -/
def State.levelHolds (s : State) : Event → Bool
  | .storeFault => s.stores.toList.any (fun r => r.state = .jammed || r.state = .offline)
  | .cashboxFull => s.cashbox.state = .full
  | .cashboxRemoved => s.cashbox.state = .removed
  | _ => false

/-! ## Fault banks (R169) -/

/-- R169: a fault presented to a store's bank, with its event. -/
def State.faultStore (s : State) (i : Station) (f : Capture) (except : Option PortId) : State :=
  (s.setStoreBank i ((s.storeBank i).take { f with time := s.time })).latch .storeFault except

/-- R169: a fault presented to a point's bank, with its event. -/
def State.faultPoint (s : State) (p : PointId) (f : Capture) : State :=
  (s.setPointBank p ((s.pointBank p).take { f with time := s.time })).latch .pointFault none

/-- A capture without expected and observed figures (R168); its time is set when it is presented. -/
def plainFault (code : FaultCode) (countAt : Option Nat) (source : FaultSource) (extra : Option Nat) : Capture :=
  ⟨code, 0, countAt, none, none, source, extra⟩

/-- A capture with expected and observed figures (R168). -/
def figureFault (code : FaultCode) (countAt : Option Nat) (expected observed : Nat) (source : FaultSource)
    (extra : Option Nat) : Capture :=
  ⟨code, 0, countAt, some expected, some observed, source, extra⟩

/-! ## Count memory (R204) -/

/-- The figures count memory holds for a store (R204). -/
def Store.counts (r : Store) : StationCounts :=
  ⟨r.count, r.inTally, r.outTally, r.moduleTally, r.ejectRecord⟩

/-- R204: the running figures under a write number. -/
def State.countData (s : State) (number : BitVec 32) : CountData :=
  ⟨number, s.stores.map Store.counts, s.cashbox.count, s.cashbox.value⟩

/-- The copy that was written or read last. -/
def CountMemory.newer (m : CountMemory) : CountCopy := if m.lastIsA then m.copyA else m.copyB

/-- R204: count memory written: the copy that is not the newer one takes the running figures and the next number. -/
def State.writeCounts (s : State) : State :=
  let copy := CountCopy.sealed (s.countData (s.countMemory.newer.data.number + 1#32))
  s.setCountMemory
    (if s.countMemory.lastIsA then { s.countMemory with copyB := copy, lastIsA := false }
     else { s.countMemory with copyA := copy, lastIsA := true })

/-! ## Counts of stores (R3, R4) -/

/-- R3: a store's count takes a new value: level flags with their edges (R6, R7), the ACTIVE/EMPTY decision (R9) and the
write of count memory. The accept masks follow at the end of the action (R93, log 5). -/
def State.setCount (s : State) (i : Station) (n : Nat) (except : Option PortId) : State :=
  let before := s.store i
  let after := before.counted n
  let s := s.setStore i after
  (if edgeLatches before after then s.latch .storeLevel except else s).writeCounts

/-- R3, R4: up to k items counted out: the out-tally rises by the items counted out and count stops at 0. -/
def State.countOut (s : State) (i : Station) (k : Nat) (except : Option PortId) : State :=
  let r := s.store i
  (s.setStore i { r with outTally := r.outTally + BitVec.ofNat 32 (min k r.count) }).setCount i (r.count - k) except

/-! ## Store states (R8 to R12) -/

def State.setStoreState (s : State) (i : Station) (x : StoreState) : State :=
  s.updStore i (fun r => { r with state := x })

/-- R11: an offline cause: ACTIVE, EMPTY and JAMMED go to OFFLINE, REFILL goes to OFFLINE with UNVERIFIED set, and
OFFLINE and DISABLED stay. -/
def Store.offlined (r : Store) : Store :=
  match r.state with
  | .active | .empty | .jammed => { r with state := .offline }
  | .refill => { r with state := .offline, unverified := true }
  | .offline | .disabled => r

/-- R10: a jam cause: ACTIVE and EMPTY go to JAMMED. -/
def Store.jammedBy (r : Store) : Store := if r.working then { r with state := .jammed } else r

/-- R9, R12, R17: the store returned to ACTIVE or EMPTY by its count. -/
def Store.returned (r : Store) : Store := { r with state := workingState r.count }

/-! ## Cashbox monitor (R160 to R164) -/

/-- R160, R163: the monitor's state computed afresh, with the events of its change. -/
def State.boxRefresh (s : State) (except : Option PortId) : State :=
  let state := boxState s.system.boxCapacity s.system.boxNearFull s.cashbox.presence s.cashbox.count
  (s.setCashbox { s.cashbox with state := state }).latchAll (boxEvents s.cashbox.state state) except

/-- R161: one item of value d counted into the box, or into the loose figures while the box is out. -/
def Cashbox.counted (d : Nat) (c : Cashbox) : Cashbox :=
  if c.state = .removed then
    { c with looseCount := min (c.looseCount + 1) 65535, looseValue := min (c.looseValue + d) 9999999 }
  else { c with count := min (c.count + 1) 65535, value := min (c.value + d) 9999999 }

/-- R161: one item counted into the cashbox: the figures, count memory, then the state with its events. -/
def State.countBox (s : State) (d : Nat) : State :=
  ((s.setCashbox (s.cashbox.counted d)).writeCounts).boxRefresh none

/-- Several items of one value counted into the cashbox (R132, R209). -/
def State.countBoxTimes (s : State) (d : Nat) : Nat → State
  | 0 => s
  | n + 1 => (s.countBox d).countBoxTimes d n

/-! ## Record states, releases and evictions (R28, R32, R72 to R81) -/

/-- R32: planned, delivered, lapse at and settled from removed. -/
def Rec.leavePlan (r : Rec) : Rec :=
  { r with planned := none, delivered := none, lapseAt := none, settledFrom := none }

/-- R28, R32: a record enters a state outside SETTLED and PAYING: state since is set and its plan fields are removed. -/
def Rec.enter (r : Rec) (x : RecState) (now : Time) : Rec := { r.leavePlan with state := x, stateSince := now }

/-- R72: the reserved figures lowered by the entries of a list. -/
def State.unreserve (s : State) : List Entry → State
  | [] => s
  | en :: rest => (s.updStore en.station (fun r => { r with reserved := r.reserved - en.items })).unreserve rest

/-- R66: the reserved figures raised by the entries of a list. -/
def State.reserve (s : State) : List Entry → State
  | [] => s
  | en :: rest => (s.updStore en.station (fun r => { r with reserved := r.reserved + en.items })).reserve rest

/-- R211: the list change number after an action that changed the list. -/
def Rec.relisted (r : Rec) (list : List Entry) : Rec := { r with list := list, listChange := r.listChange + 1#8 }

/-- R72: a full release of the record's reservation: the stores' reserved fall, the list becomes absent, pinned clears.
A record with no list has none to release. -/
def State.release (s : State) (i : Slot) : State :=
  match s.slot i with
  | none => s
  | some r =>
    match r.list with
    | [] => s.setSlot i (some { r with pinned := false })
    | list => (s.unreserve list).setSlot i (some { r.relisted [] with pinned := false })

/-- R76 step 2: the state a settled from names. -/
def Rec.returnState (r : Rec) (bound : Bool) : RecState :=
  match r.settledFrom with
  | some .partPaid => .partPaid
  | some .interrupted => .interrupted
  | some .new | none => if bound then .tendering else .opened

/-- R76 steps 1 to 3, R79 step 3: the reservation released whole and the record returned by its settled from. -/
def State.unsettle (s : State) (i : Slot) : State :=
  match s.slot i with
  | none => s
  | some r =>
    (s.release i).updRec i (fun x => x.enter (r.returnState (s.pointOf r.tag).isSome) s.time)

/-- The items a list holds at a station (R27: each station appears once). -/
def itemsAt (list : List Entry) (i : Station) : Nat :=
  match list.find? (fun en => en.station == i) with
  | some en => en.items
  | none => 0

/-- Whether a list has an entry for a station. -/
def listHas (list : List Entry) (i : Station) : Bool := list.any (fun en => en.station == i)

/-- A list with n items taken from a station's entry; an entry that reaches 0 leaves the list (R27). -/
def takeItems (list : List Entry) (i : Station) (n : Nat) : List Entry :=
  list.filterMap (fun en =>
    if en.station = i then (if en.items ≤ n then none else some { en with items := en.items - n }) else some en)

/-- R72, R80: a partial release of n items of one entry of a PAYING record: the entry's items and the store's reserved
fall by n, and planned by n times the denomination. -/
def State.partialRelease (s : State) (i : Slot) (st : Station) (n : Nat) : State :=
  if n = 0 then s
  else
    let s' := s.updStore st (fun r => { r with reserved := r.reserved - n })
    s'.updRec i (fun r =>
      { r.relisted (takeItems r.list st n) with
        planned := r.planned.map (· - n * (s.store st).cfg.denomination) })

/-- R79: whether one record settled after another, or in a higher slot in a tie: the younger of the two. -/
def youngerThan (now : Time) (a b : Slot × Rec) : Bool :=
  age now a.2.stateSince < age now b.2.stateSince
    || (age now a.2.stateSince == age now b.2.stateSince && b.1.val < a.1.val)

/-- The youngest of some records by state since (R79). -/
def youngest (now : Time) : List (Slot × Rec) → Option (Slot × Rec)
  | [] => none
  | x :: xs =>
    match youngest now xs with
    | none => some x
    | some y => if youngerThan now y x then some y else some x

/-- The oldest of some records by state since, the lower slot in a tie (R28). -/
def oldest (now : Time) : List (Slot × Rec) → Option (Slot × Rec)
  | [] => none
  | x :: xs =>
    match oldest now xs with
    | none => some x
    | some y => if youngerThan now x y then some y else some x

/-- R79: the records in a state whose list has an entry for the store. -/
def State.holders (s : State) (x : RecState) (i : Station) : List (Slot × Rec) :=
  s.liveRecords.filter (fun p => p.2.state = x && listHas p.2.list i)

/-- R79 first step: SETTLED holders released whole, youngest settle first, until reserved is within count. -/
def State.evictSettled (s : State) (i : Station) : Nat → State
  | 0 => s
  | n + 1 =>
    if (s.store i).reserved ≤ (s.store i).count then s
    else
      match youngest s.time (s.holders .settled i) with
      | none => s
      | some p => (s.unsettle p.1).evictSettled i n

/-- R80: entries of PAYING holders cut, youngest first, until reserved is within count, each by the smaller of its items
and the excess. The order of the records is not changed to spare the item of an outstanding eject (DESIGN CHOICE,
log 51). -/
def State.evictPaying (s : State) (i : Station) : Nat → State
  | 0 => s
  | n + 1 =>
    if (s.store i).reserved ≤ (s.store i).count then s
    else
      match youngest s.time (s.holders .paying i) with
      | none => s
      | some p =>
        (s.partialRelease p.1 i (min (itemsAt p.2.list i) ((s.store i).reserved - (s.store i).count))).evictPaying i n

/-- R79 to R81: eviction, called for when an action lowered the store's count below its reserved. -/
def State.evict (s : State) (i : Station) : State :=
  if (s.store i).reserved ≤ (s.store i).count then s
  else ((s.evictSettled i 24).evictPaying i 24).latch .reservationLost none

/-! ## Stamps -/

/-- The time count moved on to a due moment that it has not reached (log 13). -/
def State.reach (s : State) (from_ : Time) (units : Nat) : State :=
  if age s.time from_ < units then s.setTime (from_ + BitVec.ofNat 32 units) else s

/-- R76: whether the time count is at or past a moment. -/
def reached (now moment : Time) : Bool := (now - moment).toNat < 2 ^ 31

end Sys2Proof.Machine
end

