-- ==== Sys2Proof/Machine/Bus.lean ====
section
/-! DEFINITION. The tube bus arbiter (R144, R145), sending a request (R135), and the reconciler's work list (R173). -/

namespace Sys2Proof.Machine

/-! ## The arbiter (R144 to R146) -/

/-- R145: the fixed order of the requesters. -/
def requesterOrder : List Requester :=
  [.engine .p1, .engine .p2, .engine .m, .intake .p1, .intake .p2, .reconciler, .poller]

/-- R145 step 1: a waiting set in the fixed order. -/
def ordered (waiting : List Requester) : List Requester := requesterOrder.filter (fun r => waiting.contains r)

/-- Whether the bus is granted and its holder's request is still to be sent (log 10). -/
def Bus.unsent (b : Bus) : Bool := b.exchange.isNone && !b.polling

/-- Whether a requester's request stands: granted and not sent, in the round, or in the waiting set. -/
def Bus.standing (b : Bus) (r : Requester) : Bool :=
  (b.holder == some r && b.unsent) || b.round.contains r || b.waiting.contains r

/-- R145, R150: a request reaches the arbiter: granted at once when nothing holds or waits for the bus, and otherwise,
or during the module settle wait, into the waiting set. -/
def State.requestBus (s : State) (r : Requester) : State :=
  let b := s.bus
  if b.standing r then s
  else if b.holder.isNone && b.round.isEmpty && b.waiting.isEmpty && !s.startUp.settling then
    s.setBus { b with holder := some r }
  else s.setBus { b with waiting := b.waiting ++ [r] }

/-- R145: the holder gives up the bus; an empty round is formed anew from the waiting set, and the first of the round
becomes the holder. -/
def Bus.pass (b : Bus) : Bus :=
  let round := if b.round.isEmpty then ordered b.waiting else b.round
  let waiting := if b.round.isEmpty then [] else b.waiting
  { b with exchange := none, polling := false, holder := round.head?, round := round.tail, waiting := waiting }

def State.passBus (s : State) : State := s.setBus s.bus.pass

/-- R145: a requester withdraws its standing request; a grant not yet sent passes on. -/
def State.withdraw (s : State) (r : Requester) : State :=
  let b := s.bus
  if b.holder == some r && b.unsent then s.passBus
  else s.setBus { b with round := b.round.filter (fun x => x != r), waiting := b.waiting.filter (fun x => x != r) }

/-- R126, R180: a requester gives up what it asked of the bus: an exchange in progress is carried to its end without
it, and a standing request is withdrawn. -/
def State.giveUpBus (s : State) (r : Requester) : State :=
  let s := s.withdraw r
  match s.bus.exchange with
  | some x => if x.requester = r then s.setBus { s.bus with exchange := some { x with abandoned := true } } else s
  | none => s

/-- R135: the request sent to a station under its sequence number, which then advances (log 22). -/
def State.sendRequest (s : State) (r : Requester) (i : Station) (op : TubeOp) : State :=
  let q := (s.store i).sequence
  (s.updStore i (fun x => { x with sequence := x.sequence + 1#4 })).setBus
    { s.bus with holder := some r, exchange := some ⟨r, i, op, q, false, false⟩ }

/-- The exchange in progress when a reply names its station (R136): a reply that names another station counts as
none. -/
def State.exchangeAt (s : State) (station : BitVec 4) : Option Exchange :=
  match s.bus.exchange with
  | some x => if replyStation station = some x.station then some x else none
  | none => none

/-! ## The reconciler's work list (R173) -/

def State.setWork (s : State) (work : List Work) : State := s.setReconciler { s.reconciler with work := work }

/-- Whether the head of the work list has its exchange on the bus. -/
def State.headInFlight (s : State) : Bool :=
  match s.bus.exchange with
  | some x => x.requester == .reconciler
  | none => false

/-- R144: the reconciler's place asks for the bus while it has an exchange to make. -/
def State.kick (s : State) : State :=
  match s.reconciler.work with
  | [] => if s.bus.holder == some .reconciler && !s.bus.unsent then s else s.withdraw .reconciler
  | w :: _ => if w.paused || s.headInFlight then s else s.requestBus .reconciler

/-- A piece of work for a cause at a station. -/
def newWork (i : Station) (cause : WorkCause) (ops : List RecOp) : Work :=
  ⟨i, cause, ops, false, false, false, false, false, false, none, false⟩

/-- A piece of work placed at the end of the list (R173). -/
def State.place (s : State) (w : Work) : State := s.setWork (s.reconciler.work ++ [w])

/-- The first element that meets a test, changed; none when no element does. -/
def changeFirst {α : Type} (test : α → Bool) (f : α → α) : List α → Option (List α)
  | [] => none
  | x :: xs => if test x then some (f x :: xs) else (changeFirst test f xs).map (fun ys => x :: ys)

/-- Whether a piece of work still has a band read of the station to make. -/
def Work.readsBand (w : Work) (i : Station) : Bool := w.station == i && w.ops.contains .band

/-- A read that verifies a count (R173). -/
def verifyRead (i : Station) : Work := { newWork i .read [.band] with verifies := true }

/-- R173, R178: the read an engine asks for, a TALLY and then a BAND; an engine awaits it after a final NONE. -/
def engineRead (i : Station) (afterNone : Bool) : Work :=
  { newWork i .read [.tally, .band] with asked := !afterNone, afterNone := afterNone }

/-- R173: whether an engine asked for a read. -/
def Work.forEngine (w : Work) : Bool := w.asked || w.afterNone

/-- The exchanges of a piece of work with a TALLY before its BAND (R173). -/
def withTally (ops : List RecOp) : List RecOp :=
  if ops.contains .tally then ops else ops.flatMap (fun op => if op = .band then [.tally, .band] else [op])

/-- R173: whether a waiting read can serve what another read is for. An attention service keeps its own order, so it
serves an engine only while its TALLY is still to come (log 23). -/
def Work.canServe (w x : Work) : Bool :=
  x.readsBand w.station && !(w.forEngine && x.cause == .service && !x.ops.contains .tally)

/-- R173: a waiting read made to serve another read's causes too, with a TALLY first for an engine. -/
def Work.serving (w x : Work) : Work :=
  { x with
    ops := if w.forEngine then withTally x.ops else x.ops
    verifies := x.verifies || w.verifies
    attention := x.attention || w.attention
    asked := x.asked || w.asked
    afterNone := x.afterNone || w.afterNone }

/-- Whether the band read of the head of the work list is on the bus: it is under way and waits no more. -/
def State.bandInFlight (s : State) : Bool :=
  s.headInFlight && (s.reconciler.work.head?.map Work.ops).bind List.head? == some .band

/-- R173: a read given to a read of its station that waits in the work list, or that is deferred; none where none
does. -/
def State.joinRead (s : State) (w : Work) : Option State :=
  let n := if s.bandInFlight then 1 else 0
  match changeFirst w.canServe w.serving (s.reconciler.work.drop n) with
  | some work => some (s.setWork (s.reconciler.work.take n ++ work))
  | none =>
    (changeFirst w.canServe w.serving s.reconciler.deferred).map (fun deferred =>
      s.setReconciler { s.reconciler with deferred := deferred })

/-- R173: a band read placed, unless one that waits serves its causes too. -/
def State.placeRead (s : State) (w : Work) : State := (s.joinRead w).getD (s.place w)

/-- R173: a read of a station's band that verifies its count. -/
def State.placeVerify (s : State) (i : Station) : State := s.placeRead (verifyRead i)

/-- R173, R176: the band read an engine asks for. -/
def State.placeEngineRead (s : State) (i : Station) (afterNone : Bool) : State := s.placeRead (engineRead i afterNone)

/-- Whether a piece of work sends a station's settings. -/
def Work.isSettings (w : Work) (i : Station) : Bool :=
  w.station == i && (w.cause == .settings || w.cause == .startSettings)

/-- R1, R203: whether a station is a store the controller works with: every store is held absent in SETUP-FAULT. -/
def State.fitted (s : State) (i : Station) : Bool := (s.store i).cfg.present && !s.setupFault

/-- R143: whether the settings go out to a station while its mark is set: it is present, or gate position UNSET is a
cause. -/
def State.settable (s : State) (i : Station) : Bool := s.fitted i || (s.store i).settingsUnset

/-- Settings of a station on the bus are out of date once they become due anew (R143). -/
def Work.outdated (i : Station) (w : Work) : Work := { w with stale := w.stale || w.isSettings i }

/-- The work list with a change of the head whose exchange is on the bus. -/
def State.changeInFlight (s : State) (f : Work → Work) : State :=
  match s.reconciler.work with
  | [] => s
  | w :: ws => if s.headInFlight then s.setWork (f w :: ws) else s

/-- The work whose exchange is not on the bus. -/
def State.waitingWork (s : State) : List Work :=
  if s.headInFlight then s.reconciler.work.drop 1 else s.reconciler.work

/-- The work list with a change of what waits behind an exchange on the bus. -/
def State.changeWaiting (s : State) (f : List Work → List Work) : State :=
  s.setWork ((if s.headInFlight then s.reconciler.work.take 1 else []) ++ f s.waitingWork)

/-- R143: the two exchanges of a station's settings placed at the end of the list while its mark is set; settings that
wait whole serve. -/
def State.placeSettings (s : State) (i : Station) : State :=
  if !(s.store i).settingsDue || !s.settable i || s.waitingWork.any (fun w => w.isSettings i && w.ops.length == 2) then s
  else s.place (newWork i .settings [.window, .stage])

/-- R143: the settings-due mark set for a station, with its exchanges. unset says that gate position UNSET is the
cause. -/
def State.settingsDue (s : State) (i : Station) (unset : Bool) : State :=
  ((s.updStore i (fun r => { r with settingsDue := true, settingsUnset := r.settingsUnset || unset })).changeInFlight
    (Work.outdated i)).placeSettings i

/-- R143: a station set absent: its settings leave the list unless gate position UNSET is a cause of the mark. -/
def State.dropSettings (s : State) (i : Station) : State :=
  if s.settable i then s else s.changeWaiting (fun ws => ws.filter (fun w => !w.isSettings i))

/-- R13, R173: UNVERIFIED set, with the band read that a store in ACTIVE or EMPTY gets. -/
def State.unverify (s : State) (i : Station) : State :=
  let s := s.updStore i (fun r => { r with unverified := true })
  if (s.store i).working then s.placeVerify i else s

/-- R148: one station's attention service finished: the poller returns to QUIET after the last. -/
def State.serviced (s : State) (i : Station) : State :=
  let left := dropStation s.bus.serviceLeft i
  if left = 0#12 then
    s.setBus { s.bus with serviceLeft := left, poller := .quiet, pollMap := 0#12, serviceEnd := some s.time }
  else s.setBus { s.bus with serviceLeft := left }

/-- Whether a piece of work is part of start-up (R207). -/
def Work.ofStartUp (w : Work) : Bool :=
  match w.cause with
  | .startEject | .startFill | .startStatus | .startSettings | .startBand => true
  | _ => false

/-- The head of the work list leaves it; a service that ends tells the poller (R148). -/
def State.dropHead (s : State) : State :=
  match s.reconciler.work with
  | [] => s
  | w :: ws => if w.cause = .service then (s.setWork ws).serviced w.station else s.setWork ws

/-- The head's exchange has ended and been handled: the rest of its exchanges stand, or it leaves the list. -/
def State.nextOp (s : State) : State :=
  match s.reconciler.work with
  | [] => s
  | w :: ws =>
    match w.ops.tail with
    | [] => s.dropHead
    | ops => s.setWork ({ w with ops := ops, paused := false } :: ws)

/-- R149, R207: the head's exchange has failed: its remaining exchanges are not made, and in start-up none of the
station's. -/
def State.failHead (s : State) : State :=
  match s.reconciler.work with
  | [] => s
  | w :: _ =>
    let s := s.dropHead
    if w.ofStartUp then
      s.setWork (s.reconciler.work.filter (fun x => !(x.ofStartUp && x.station == w.station)))
    else s

/-- Whether a read only verifies a count. -/
def Work.onlyVerifies (w : Work) : Bool :=
  (w.cause == .read || w.cause == .startBand) && !w.attention && !w.forEngine

/-- R174: reads that only verify a count are not made for an OFFLINE store. -/
def State.prune (s : State) : State :=
  let keep (w : Work) : Bool := !(w.onlyVerifies && (s.store w.station).state == .offline)
  let s := s.changeWaiting (fun ws => ws.filter keep)
  s.setReconciler { s.reconciler with deferred := s.reconciler.deferred.filter keep }

/-- R174: whether a deferred band read of a station may be made: no eject outstanding, and 500 ms since the last routed
item. The eject record says that an eject is outstanding, one that SETUP-FAULT keeps unreconciled too: the read is
deferred for as long as the record stands (DESIGN CHOICE, log 78). -/
def State.ripe (s : State) (i : Station) : Bool :=
  (s.store i).ejectRecord.isNone
    && (match (s.store i).lastRouted with
      | none => true
      | some t => decide (50 ≤ age s.time t))

/-- R173, R174: a station's deferred band reads placed in the work list again once they may be made, at its end (DESIGN
CHOICE, log 64). -/
def State.ripen (s : State) (i : Station) : State :=
  if s.ripe i then
    (s.reconciler.deferred.filter (fun w => w.station == i)).foldl State.placeRead
      (s.setReconciler { s.reconciler with deferred := s.reconciler.deferred.filter (fun w => w.station != i) })
  else s

end Sys2Proof.Machine
end

