-- ==== Sys2Proof/Machine/Intake.lean ====
section
/-! DEFINITION. The intake units (05): the accept mask, applying credits, the credit queue, routing and the acceptor
line. -/

namespace Sys2Proof.Machine

/-! ## The accept mask (R92, R93) -/

/-- R92: whether the binding lets the acceptor be open: FLOAT, or a SALE record in TENDERING, SETTLED, PART-PAID or
INTERRUPTED. -/
def State.creditTaking (s : State) : Binding → Bool
  | .none => false
  | .float _ => true
  | .record tag =>
    match s.lookup tag with
    | some (_, r) =>
      r.kind = .sale
        && (r.state = .tendering || r.state = .settled || r.state = .partPaid || r.state = .interrupted)
    | none => false

/-- R92: whether a route for a denomination exists. -/
def State.hasRoute (s : State) (d : Nat) : Bool :=
  s.stores.toList.any (fun r => r.cfg.denomination == d && r.accepts)
    || s.cashbox.state = .ok || s.cashbox.state = .nearFull

/-- R92, R203: whether the point's acceptor is inhibited. -/
def State.inhibited (s : State) (p : PointId) : Bool :=
  !s.startUp.ended || s.setupFault || !s.creditTaking (s.point p).binding
    || (s.engine (pointEngine p)).state != .idle || (s.setup p).inhibit ≤ (s.point p).queue.length

/-- R92: the accept mask formed from the state. -/
def State.acceptMask (s : State) (p : PointId) : List Nat :=
  if s.inhibited p then [] else ((s.point p).recognised.getD []).filter s.hasRoute

/-- A message sent on the acceptor line. -/
def State.send (s : State) (p : PointId) (m : AcceptorMessage) : State :=
  s.updPoint p (fun x => { x with sent := x.sent ++ [m] })

/-- R93: the mask sent in a MASK-UPDATE. -/
def State.sendMask (s : State) (p : PointId) : State :=
  (s.send p (.maskUpdate (s.point p).mask)).updPoint p
    (fun x => { x with maskSent := some x.mask, maskSentAt := some s.time })

/-- R93: the mask recomputed, and sent when it differs from the one last sent and the line is UP. -/
def State.refreshMask (s : State) (p : PointId) : State :=
  let s' := s.updPoint p (fun x => { x with mask := s.acceptMask p })
  if (s.point p).line = .up ∧ (s.point p).maskSent ≠ some (s.acceptMask p) then s'.sendMask p else s'

/-- R93: both masks recomputed, at the end of an action (log 5). -/
def State.refreshMasks (s : State) : State := (s.refreshMask .p1).refreshMask .p2

/-! ## Credits (R99 to R102) -/

/-- R100 steps 1 to 3: tendered, excess, owed and the SHORT mark after a credit. -/
def Rec.credited (unit d : Nat) (r : Rec) : Rec :=
  let tendered := saturate (r.tendered + d)
  { r with
    tendered := tendered
    excess := saturate (r.excess + (r.tendered + d - tendered))
    owed := owedOf unit r.kind r.due tendered
    shortfall := none }

/-- R100: a credit applied to the SALE record in a slot. -/
def State.creditRecord (s : State) (i : Slot) (d : Nat) : State :=
  match s.slot i with
  | none => s
  | some r =>
    let s := if r.state = .settled then s.release i else s
    s.updRec i (fun x =>
      let x := x.credited s.system.unit d
      match r.state with
      | .settled | .partPaid | .interrupted | .paid => x.enter .tendering s.time
      | .opened | .tendering | .paying | .void => x)

/-- R102: a credit applied to the point's unclaimed credit. -/
def State.creditUnclaimed (s : State) (p : PointId) (d : Nat) : State :=
  let before := (s.point p).unclaimed
  let s := s.updPoint p (fun x => { x with unclaimed := saturate (x.unclaimed + d) })
  if before = 0 ∧ 0 < d then s.latch .creditUnclaimed none else s

/-- R99: a credit applied by the point's binding; none while it waits for a record in PAYING. -/
def State.creditPoint (s : State) (p : PointId) (d : Nat) : Option State :=
  match (s.point p).binding with
  | .none => some (s.creditUnclaimed p d)
  | .float total => some (s.setBinding p (.float (saturate (total + d))))
  | .record tag =>
    match s.lookup tag with
    | none => some (s.creditUnclaimed p d)
    | some (i, r) =>
      if r.state = .paying then none
      else
        match r.kind with
        | .sale => some (s.creditRecord i d)
        | .refund => some (s.creditUnclaimed p d)

/-- The oldest entry of a queue not yet applied, marked applied. -/
def markApplied : List Credit → List Credit
  | [] => []
  | c :: cs => if c.applied then c :: markApplied cs else { c with applied := true } :: cs

/-- R97: entries both routed and applied leave from the head; one behind an entry that is not stays until it is the head
(DESIGN CHOICE, log 60). -/
def State.dropDone (s : State) (p : PointId) : State :=
  s.updPoint p (fun x => { x with queue := x.queue.dropWhile (fun c => c.route.isSome && c.applied) })

/-- R99: unapplied entries applied, oldest first, until one must wait. -/
def State.applyLoop (s : State) (p : PointId) : Nat → State
  | 0 => s
  | n + 1 =>
    match (s.point p).queue.find? (fun c => !c.applied) with
    | none => s
    | some c =>
      match s.creditPoint p c.denomination with
      | none => s
      | some s' => (s'.updPoint p (fun x => { x with queue := markApplied x.queue })).applyLoop p n

/-- R99: the point's waiting credits applied, and the finished entries leave. -/
def State.applyCredits (s : State) (p : PointId) : State := (s.applyLoop p (s.point p).queue.length).dropDone p

/-! ## Routing (R94 to R98) -/

/-- R94 step 1: the store with the lower count, the earlier in a tie. -/
def lowestCount : List (Station × Nat) → Option (Station × Nat)
  | [] => none
  | x :: xs =>
    match lowestCount xs with
    | none => some x
    | some y => if y.2 < x.2 then some y else some x

/-- R94: the store route for a denomination, or none for the cashbox. -/
def State.chooseStore (s : State) (d : Nat) : Option Station :=
  (lowestCount (allStations.filterMap (fun i =>
    let r := s.store i
    if r.cfg.denomination == d && r.accepts then some (i, r.count) else none))).map Prod.fst

/-- The entry whose route is outstanding. -/
def Point.outgoing (x : Point) : Option Credit :=
  match x.routeOut with
  | none => none
  | some item => x.queue.find? (fun c => c.item == item && c.route.isNone)

/-- An entry's route set. -/
def setRoute (item : Byte) (route : Route) : List Credit → List Credit
  | [] => []
  | c :: cs =>
    if c.item = item ∧ c.route.isNone then { c with route := some route } :: cs else c :: setRoute item route cs

/-- R95, R96: the outstanding entry is marked routed, its item released, and route outstanding becomes none. -/
def State.routed (s : State) (p : PointId) (item : Byte) (route : Route) : State :=
  let s := (s.send p (.release item)).updPoint p (fun x =>
    { x with queue := setRoute item route x.queue, routeOut := none })
  s.dropDone p

/-- R98: the overrun items of release owed released in order, each counted into the cashbox. -/
def State.releaseOwed (s : State) (p : PointId) : List (Byte × Nat) → State
  | [] => s.updPoint p (fun x => { x with releaseOwed := [] })
  | (item, d) :: rest => ((s.send p (.release item)).countBox d).releaseOwed p rest

/-- R94, R98: while the line is UP and no route of the point is outstanding, release owed is sent, and then the oldest
unrouted entry becomes the route outstanding and asks for the bus. -/
def State.routeNext (s : State) (p : PointId) : State :=
  if (s.point p).line = .up ∧ (s.point p).routeOut = none ∧ s.startUp.ended then
    let s := s.releaseOwed p (s.point p).releaseOwed
    match (s.point p).queue.find? (fun c => c.route.isNone) with
    | none => s
    | some c => (s.updPoint p (fun x => { x with routeOut := some c.item })).requestBus (.intake p)
  else s

/-- R98: an item taken in: queued, with its credit applied if it may be, or credited as an overrun when the queue is
full. An overrun is appended to release owed though 255 items wait there already (DESIGN CHOICE, log 79). -/
def State.takeIn (s : State) (p : PointId) (item : Byte) (d : Nat) : State :=
  if (s.point p).queue.length < 16 then
    (s.updPoint p (fun x => { x with queue := x.queue ++ [⟨item, d, s.time, none, false⟩] })).applyCredits p
  else
    ((s.creditUnclaimed p d).faultPoint p (plainFault .queueOverrun none (.intake p) (some d))).updPoint p
      (fun x => { x with releaseOwed := x.releaseOwed ++ [(item, d)] })

/-- R96: the item of the outstanding entry goes to the cashbox. -/
def State.routeToBox (s : State) (p : PointId) (c : Credit) : State :=
  (s.countBox c.denomination).routed p c.item .cashbox

/-- R95: the item of the outstanding entry goes to a store: count and in-tally rise by one. The count stops at a capacity
that SET-STORE has lowered to it between the grant and the reply, while the in-tally rises (DESIGN CHOICE, log 15). -/
def State.routeToStore (s : State) (p : PointId) (c : Credit) (i : Station) : State :=
  let s := s.updStore i (fun r => { r with inTally := r.inTally + 1#32, lastRouted := some s.time })
  let r := s.store i
  (s.setCount i (min (r.count + 1) (max r.count r.cfg.capacity)) none).routed p c.item (.store i)

/-! ## The acceptor line (R91, R180, R181) -/

/-- R91: IDENTIFY sent, the line STARTING and its watch started. -/
def State.startLine (s : State) (p : PointId) : State :=
  (s.send p .identify).updPoint p (fun x => { x with line := .starting, watch := some s.time })

/-- R180: the line taken as LOST: the fault presented, and a route outstanding unrouted again with its bus request given
up. The period of R181 begins at the loss, so the first IDENTIFY follows 1,000 ms later (DESIGN CHOICE, log 65). -/
def State.loseLine (s : State) (p : PointId) (reason : Nat) : State :=
  let s := s.faultPoint p (plainFault .acceptorSilent none (.intake p) (some reason))
  let s := if (s.point p).routeOut.isSome then s.giveUpBus (.intake p) else s
  s.updPoint p (fun x => { x with line := .lost, watch := some s.time, routeOut := none })

/-- R180: the time of the last message received while UP. -/
def State.heard (s : State) (p : PointId) : State := s.updPoint p (fun x => { x with watch := some s.time })

end Sys2Proof.Machine
end

