-- ==== Sys2Proof/Machine/Planner.lean ====
section
/-! DEFINITION. The change planner (03, 04): availability, the chosen split, allocation, short plans and borrowing. It
holds no state of its own (R68). -/

namespace Sys2Proof.Machine

/-- One store's part in a planning request: its availability in the measure of the pass (R55). -/
structure Offer where
  station : Station
  denomination : Nat
  items : Nat
deriving DecidableEq, Repr

/-- A pass of the planner (R53). -/
inductive Pass where
  | first | second
deriving DecidableEq, Repr

/-- R15, R55: the figure a pass takes from a store. -/
def Store.available (r : Store) : Pass → Nat
  | .first => r.firstPass
  | .second => r.secondPass

/-- R55: the offers of the usable stores that the request does not exclude, each enlarged by the items the request
counts as free there. -/
def State.offers (s : State) (pass : Pass) (excluded : BitVec 12) (own : Station → Nat) : List Offer :=
  allStations.filterMap (fun i =>
    let r := s.store i
    if r.usable && !excluded.getLsbD i.val then
      some ⟨i, r.cfg.denomination, r.available pass + own i⟩
    else none)

/-- A denomination placed in a descending list without repeats. -/
def insertDenomination (d : Nat) : List Nat → List Nat
  | [] => [d]
  | e :: es => if d = e then e :: es else if e < d then d :: e :: es else e :: insertDenomination d es

/-- R55: the denominations of some offers, largest first. -/
def denominations (os : List Offer) : List Nat := os.foldr (fun o ds => insertDenomination o.denomination ds) []

/-- R55: the measure of a denomination, the sum over its stores. -/
def measure (os : List Offer) (d : Nat) : Nat :=
  ((os.filter (fun o => o.denomination == d)).map Offer.items).sum

/-- R55: the denominations with their measures, largest first. -/
def measures (os : List Offer) : List (Nat × Nat) := (denominations os).map (fun d => (d, measure os d))

/-- R58: the counts from n down to 0, the first that succeeds. -/
def tryDown {α : Type} (f : Nat → Option α) : Nat → Option α
  | 0 => f 0
  | n + 1 =>
    match f (n + 1) with
    | some a => some a
    | none => tryDown f n

/-- R57, R58: the chosen split: at each denomination, the largest count the measure, the items allowed and the value
left permit, lowered one by one until the rest can be made. -/
def chosenSplit : List (Nat × Nat) → Nat → Nat → Option (List Nat)
  | [], _, target => if target = 0 then some [] else none
  | (d, avail) :: rest, limit, target =>
    tryDown (fun n => (chosenSplit rest (limit - n) (target - n * d)).map (fun ns => n :: ns))
      (min avail (min limit (target / d)))

/-- R61: the offer with the largest availability still unallocated, the lower station in a tie. Each offer stands with
the items already given. -/
def fullest : List (Offer × Nat) → Option (Offer × Nat)
  | [] => none
  | x :: xs =>
    match fullest xs with
    | none => some x
    | some y => if x.1.items - x.2 < y.1.items - y.2 then some y else some x

/-- R61: one item taken from the fullest offer. -/
def giveOne (xs : List (Offer × Nat)) : List (Offer × Nat) :=
  match fullest xs with
  | none => xs
  | some y => xs.map (fun x => if x.1.station = y.1.station then (x.1, x.2 + 1) else x)

/-- R61: n items of a denomination allocated one at a time to its stores, in ascending station order. -/
def allocate (os : List Offer) (d n : Nat) : List Entry :=
  let start := (os.filter (fun o => o.denomination == d)).map (fun o => (o, 0))
  ((Nat.iterate giveOne n start).filter (fun x => x.2 != 0)).map (fun x => ⟨x.1.station, x.2⟩)

/-- R56 to R62: the plan for a target within an items limit under some offers: the chosen split, allocated, in list
order. -/
def planOf (os : List Offer) (limit target : Nat) : Option (List Entry) :=
  (chosenSplit (measures os) limit target).map (fun ns =>
    ((measures os).zip ns).flatMap (fun x => allocate os x.1.1 x.2))

/-- R60: the largest amount below n that has a plan, with that plan. -/
def largestBelow (os : List Offer) (limit : Nat) : Nat → Option (Nat × List Entry)
  | 0 => none
  | n + 1 =>
    if n = 0 then none
    else
      match planOf os limit n with
      | some list => some (n, list)
      | none => largestBelow os limit n

/-- R62: the value of a list under the stores' denominations. -/
def State.listValue (s : State) (list : List Entry) : Nat :=
  (list.map (fun en => en.items * (s.store en.station).cfg.denomination)).sum

/-- R62: the item total of a list. -/
def listItems (list : List Entry) : Nat := (list.map Entry.items).sum

/-- R53, R54: the items limit of a record's binding, 40 when it is unbound. -/
def State.itemsLimit (s : State) (tag : Nat) : Nat :=
  match s.pointOf tag with
  | some p => (s.setup p).itemsLimit
  | none => 40

/-- R53, R54: whether a record's binding permits short plans. -/
def State.shortPermitted (s : State) (tag : Nat) : Bool :=
  match s.pointOf tag with
  | some p => (s.setup p).short
  | none => false

/-- R83: the trial of lender Y for record X with target R: X planned over the figures with both lists free, then Y's
planned value over what is left. -/
def State.trial (s : State) (x : Rec) (target : Nat) (y : Rec) : Option (List Entry × List Entry) :=
  let os := s.offers .second 0 (fun i => itemsAt x.list i + itemsAt y.list i)
  match planOf os (s.itemsLimit x.tag) target with
  | none => none
  | some forX =>
    let left := os.map (fun o => { o with items := o.items - itemsAt forX o.station })
    (planOf left (s.itemsLimit y.tag) (y.planned.getD 0)).map (fun forY => (forX, forY))

/-- R82: the candidates to lend to the record in a slot. -/
def State.lenders (s : State) (i : Slot) : List (Slot × Rec) :=
  s.liveRecords.filter (fun p => p.2.state = .settled && p.1 != i && !p.2.pinned)

/-- R82, R85: the candidates tried one at a time, oldest first, until a trial succeeds. -/
def State.borrowFrom (s : State) (x : Rec) (target : Nat) :
    Nat → List (Slot × Rec) → Option (Slot × Rec × List Entry × List Entry)
  | 0, _ => none
  | n + 1, cands =>
    match oldest s.time cands with
    | none => none
    | some y =>
      match s.trial x target y.2 with
      | some lists => some (y.1, y.2, lists.1, lists.2)
      | none => s.borrowFrom x target n (cands.filter (fun c => c.1 != y.1))

/-- The outcome of a SETTLE's planning request (R59). -/
inductive Planned where
  | exact (pass : Pass) (list : List Entry)
  | borrowed (list : List Entry) (lender : Slot) (lenderTag : Nat) (lenderList : List Entry)
  | short (amount : Nat) (list : List Entry)
  | noPlan (could : Nat)
deriving DecidableEq, Repr

/-- R59: pass 1, pass 2, borrowing, short plan, no plan, for the record in a slot with a positive target. -/
def State.planSettle (s : State) (i : Slot) (x : Rec) (target : Nat) : Planned :=
  let own := itemsAt x.list
  let limit := s.itemsLimit x.tag
  match planOf (s.offers .first 0 own) limit target with
  | some list => .exact .first list
  | none =>
    match planOf (s.offers .second 0 own) limit target with
    | some list => .exact .second list
    | none =>
      match s.borrowFrom x target 24 (s.lenders i) with
      | some (j, y, forX, forY) => .borrowed forX j y.tag forY
      | none =>
        match largestBelow (s.offers .second 0 own) limit target with
        | none => .noPlan 0
        | some (amount, list) => if s.shortPermitted x.tag then .short amount list else .noPlan amount

/-- R53, R122: a substitution request: pass 1, then pass 2, without the excluded stores and with nothing counted as
free. -/
def State.planSubstitute (s : State) (excluded : BitVec 12) (limit target : Nat) : Option (List Entry) :=
  match planOf (s.offers .first excluded (fun _ => 0)) limit target with
  | some list => some list
  | none => planOf (s.offers .second excluded (fun _ => 0)) limit target

/-- R27: one entry of a station that is not in a list placed in list order: denominations largest first, and stations
ascending within one. -/
def State.insertEntry (s : State) (en : Entry) : List Entry → List Entry
  | [] => [en]
  | x :: xs =>
    let d := (s.store en.station).cfg.denomination
    let dx := (s.store x.station).cfg.denomination
    if dx < d ∨ (dx = d ∧ en.station < x.station) then en :: x :: xs else x :: s.insertEntry en xs

/-- R123: one entry placed in a list in list order (R27), joining the entry its station already has. -/
def State.placeEntry (s : State) (en : Entry) (list : List Entry) : List Entry :=
  if listHas list en.station then
    list.map (fun x => if x.station = en.station then { x with items := x.items + en.items } else x)
  else s.insertEntry en list

end Sys2Proof.Machine
end

