-- ==== Sys2Proof/Machine/Engines.lean ====
section
/-! DEFINITION. The payout engines (06): the walk through a reservation list, results, the payout modes, the end of a
payout or run, and the store arbiters they ask (R20 to R22). -/

namespace Sys2Proof.Machine

/-! ## The record an engine pays -/

/-- The record of a payout engine, with its slot. -/
def State.payRecord (s : State) (e : EngineId) : Option (Slot × Rec) :=
  match (s.engine e).record with
  | some tag => s.lookup tag
  | none => none

/-- The reservation list a payout engine walks (R113). -/
def State.payList (s : State) (e : EngineId) : List Entry :=
  match s.payRecord e with
  | some (_, r) => r.list
  | none => []

/-- R109: the plan cursor, the station of the entry an engine works: the head of its list while it is not IDLE and an
entry remains. Engine M has no list (log 45). -/
def State.planCursor (s : State) (e : EngineId) : Option Station :=
  if (s.engine e).state = .idle then none else (s.payList e).head?.map Entry.station

/-! ## The store arbiter (R20) -/

/-- R20: a request for a store: not grantable outside ACTIVE and EMPTY, granted without a holder, else appended to the
waiting list, which holds each engine at most once and never the holder. -/
def State.requestStore (s : State) (e : EngineId) (i : Station) : Grant × State :=
  let r := s.store i
  if !r.working then (.none, s)
  else
    match r.holder with
    | none => (.held, s.setStore i { r with holder := some e, burst := 0 })
    | some h =>
      if h = e then (.held, s)
      else if r.waiting.contains e then (.waiting, s)
      else (.waiting, s.setStore i { r with waiting := r.waiting ++ [e] })

/-- R113: an engine that becomes holder asks the bus for its DIVERT. -/
def State.startDivert (s : State) (e : EngineId) : State :=
  (s.updEngine e (fun x => { x with grant := .held, needs := some .divert })).requestBus (.engine e)

/-! ## Entries, ends of payout and of run -/

/-- R119 step 1 and the exclusion of step 2: the rest of the entry released and kept for substitution, and the store
excluded. -/
def State.dropEntry (s : State) (e : EngineId) (i : Station) : State :=
  let s' :=
    match s.payRecord e with
    | some (j, r) => s.partialRelease j i (itemsAt r.list i)
    | none => s
  s'.updEngine e (fun x =>
    { x with
      excluded := x.excluded ||| stationBit i
      released := (itemsAt (s.payList e) i, (s.store i).cfg.denomination)
      repeats := 0 })

/-- R125: the kind latched at the end of a payout. -/
def payoutEnd : EngineId → Event
  | .p1 => .payoutEndP1
  | .p2 => .payoutEndP2
  | .m => .skimEnd

/-- R125 steps 1 and 2: the entries left released, and the record to PAID or PART-PAID. -/
def State.closeRecord (s : State) (e : EngineId) : State :=
  match s.payRecord e with
  | none => s
  | some (i, r) =>
    (s.release i).updRec i (fun x =>
      x.enter (if r.owed.getD 0 ≤ r.paid then .paid else .partPaid) s.time)

/-- R125 steps 3 to 5, the grant given up before: the engine IDLE, PAYOUT-END latched, and the waiting credits
applied. -/
def State.retireEngine (s : State) (p : PointId) : State :=
  ((s.setEngine (pointEngine p) Engine.reset).latch (payoutEnd (pointEngine p)) none).applyCredits p

/-- R125: the end of a payout whose engine holds and awaits no grant. -/
def State.endPayoutFree (s : State) (p : PointId) : State := (s.closeRecord (pointEngine p)).retireEngine p

/-- R133: the end of a run of engine M that holds and awaits no grant. -/
def State.finishRun (s : State) (outcome : RunOutcome) : State :=
  match (s.engine .m).run with
  | none => s
  | some run =>
    let s := if run.counted = 0 then s else s.placeEngineRead run.station false
    let last : LastRun :=
      ⟨run.kind, run.station, run.counted, run.counted * (s.store run.station).cfg.denomination, outcome⟩
    (s.setEngine .m { Engine.reset with lastRun := some last }).latch .skimEnd none

/-! ## Substitution (R122, R123) -/

/-- R122: the items limit left to a substitution. -/
def State.substituteLimit (s : State) (p : PointId) : Nat :=
  (s.setup p).itemsLimit - ((s.engine (pointEngine p)).planItems + listItems (s.payList (pointEngine p)))

/-- R123: a substitution plan committed: reserved raised, the entries placed, planned raised by the plan's value, up to
the top of its range (log 44). -/
def State.commitSubstitute (s : State) (i : Slot) (list : List Entry) : State :=
  (s.reserve list).updRec i (fun r =>
    { r.relisted (list.foldl (fun l en => s.placeEntry en l) r.list) with
      planned := r.planned.map (fun v => saturate (v + s.listValue list)) })

/-- R122: the value of the failed entry replaced where a plan exists. -/
def State.substitute (s : State) (p : PointId) : State :=
  let e := s.engine (pointEngine p)
  match s.payRecord (pointEngine p), s.planSubstitute e.excluded (s.substituteLimit p) (e.released.1 * e.released.2) with
  | some (i, _), some (en :: rest) => s.commitSubstitute i (en :: rest)
  | _, _ => s

/-! ## The walk (R113, R118 to R120) -/

/-- The walk of an engine that holds and awaits no grant: the head entry's store is requested; a store not grantable is
handled as R119 gives, and the mode decides how the walk goes on (R120, R122). Each such store leaves the list for good,
so twelve stations bound the walk. -/
def State.walkFree (s : State) (p : PointId) : Nat → State
  | 0 => s
  | n + 1 =>
    match s.payList (pointEngine p) with
    | [] => s.endPayoutFree p
    | en :: _ =>
      let e := pointEngine p
      let s := s.updEngine e (fun x => { x with station := some en.station, repeats := 0, needs := none, grant := .none })
      match s.requestStore e en.station with
      | (.held, s) => s.startDivert e
      | (.waiting, s) => s.updEngine e (fun x => { x with grant := .waiting })
      | (.none, s) =>
        let s := s.dropEntry e en.station
        match (s.engine e).mode with
        | some .halt => s.endPayoutFree p
        | some .substitute => (s.substitute p).walkFree p n
        | _ => s.walkFree p n

/-- Enough rounds for any walk: each round but the last excludes another of the twelve stations. -/
def walkRounds : Nat := 13

/-- R119 step 4 (R120 to R122), the grant given up before; skipped in ENDING (R126). -/
def State.modeStep (s : State) (p : PointId) : State :=
  let e := s.engine (pointEngine p)
  if e.state = .ending then s.endPayoutFree p
  else
    match e.mode with
    | some .halt => s.endPayoutFree p
    | some .substitute => (s.substitute p).walkFree p walkRounds
    | _ => s.walkFree p walkRounds

/-- R22, R119: the entry whose store was answered not grantable to an engine that waited for it. An entry that a cut of
the same action finished is no entry to handle: its engine takes up the next one, whatever its mode, and its store is not
excluded (R80). -/
def State.entryRefused (s : State) (p : PointId) : State :=
  let i := (s.engine (pointEngine p)).station.getD 0
  if listHas (s.payList (pointEngine p)) i then (s.dropEntry (pointEngine p) i).modeStep p else s.walkFree p walkRounds

/-- R22, R119: a waiting engine answered not grantable. -/
def State.answerNotGrantable (s : State) (e : EngineId) : State :=
  let s := s.updEngine e (fun x => { x with grant := .none })
  match e with
  | .m => s.finishRun .store
  | .p1 => s.entryRefused .p1
  | .p2 => s.entryRefused .p2

/-- R21, R22: the holder releases its store's grant: to the head of the waiting list while the store is ACTIVE or EMPTY,
and otherwise to none, each waiting engine answered not grantable. The engines answered, in list order, and then the
releasing engine in its later steps ask for further stores one after the other in that order, not as requests of one
instant (DESIGN CHOICE, log 46). -/
def State.releaseGrant (s : State) (e : EngineId) : State :=
  match (s.engine e).station with
  | none => s
  | some i =>
    let s := s.updEngine e (fun x => { x with grant := .none, needs := none })
    let r := s.store i
    if r.holder ≠ some e then s
    else if r.working then
      match r.waiting with
      | [] => s.setStore i { r with holder := none, burst := 0 }
      | w :: ws => (s.setStore i { r with holder := some w, waiting := ws, burst := 0 }).startDivert w
    else
      r.waiting.foldl (fun s w => s.answerNotGrantable w)
        (s.setStore i { r with holder := none, waiting := [], burst := 0 })

/-- R21, R125: the engine releases any grant it holds or leaves the waiting list it is on. -/
def State.leaveStore (s : State) (e : EngineId) : State :=
  match (s.engine e).grant, (s.engine e).station with
  | .held, _ => s.releaseGrant e
  | .waiting, some i =>
    (s.updStore i (fun r => { r with waiting := r.waiting.filter (fun w => w != e) })).updEngine e
      (fun x => { x with grant := .none })
  | _, _ => s

/-- R125: the end of a payout. -/
def State.endPayout (s : State) (p : PointId) : State :=
  (((s.giveUpBus (.engine (pointEngine p))).closeRecord (pointEngine p)).leaveStore (pointEngine p)).retireEngine p

/-- R133: the end of a run of engine M. -/
def State.endRun (s : State) (outcome : RunOutcome) : State :=
  ((s.giveUpBus (.engine .m)).leaveStore .m).finishRun outcome

/-- The service point of a payout engine. -/
def enginePoint : EngineId → Option PointId
  | .p1 => some .p1
  | .p2 => some .p2
  | .m => none

/-! ## Engine M's run (R132) -/

/-- R132: whether the run's goal is met. -/
def State.goalMet (s : State) (run : Run) : Bool :=
  let free := (s.store run.station).count - (s.store run.station).reserved
  match run.kind with
  | .skim | .testEject => run.goal ≤ run.counted || free = 0
  | .skimTo => free ≤ run.goal

/-- R132: whether the cashbox stops a run. -/
def State.boxStops (s : State) : Bool := s.cashbox.state = .removed || s.cashbox.state = .full

/-- R113, R132: engine M asks for its store. -/
def State.requestRun (s : State) : State :=
  match (s.engine .m).run with
  | none => s
  | some run =>
    let s := s.updEngine .m (fun x => { x with station := some run.station })
    match s.requestStore .m run.station with
    | (.held, s) => s.startDivert .m
    | (.waiting, s) => s.updEngine .m (fun x => { x with grant := .waiting })
    | (.none, s) => s.finishRun .store

/-! ## Ejects and results (R114 to R121) -/

/-- The store an engine works. -/
def State.workStation (s : State) (e : EngineId) : Station := (s.engine e).station.getD 0

/-- R119: the entry of a store that is not grantable, for an engine that holds its grant. -/
def State.notGrantableHeld (s : State) (e : EngineId) : State :=
  match enginePoint e with
  | none => s.endRun ((s.engine e).endCause.getD .store)
  | some p => ((s.dropEntry e (s.workStation e)).releaseGrant e).modeStep p

/-- R113, R132: the checks before an EJECT under a grant, and the request for it. For engine M the store is looked at
first, then the cashbox (DEDUCED, log 35) and then the goal, so that a store outside ACTIVE and EMPTY gives STORE though
the goal is met (DESIGN CHOICE, log 62). -/
def State.tryEject (s : State) (e : EngineId) : State :=
  if !(s.store (s.workStation e)).working then s.notGrantableHeld e
  else if e = .m && s.boxStops then s.endRun .cashbox
  else if e = .m && ((s.engine .m).run.map s.goalMet).getD true then s.endRun .complete
  else (s.updEngine e (fun x => { x with needs := some .eject })).requestBus (.engine e)

/-- R119 step 3 and 4 after the band read, or when no read is made. -/
def State.afterRead (s : State) (e : EngineId) : State :=
  let s := (s.updEngine e (fun x => { x with bandAwaited := none })).releaseGrant e
  match enginePoint e with
  | none => s.finishRun ((s.engine e).endCause.getD .none)
  | some p => s.modeStep p

/-- R119: a final NONE: the entry released and its store excluded, then the band read the engine awaits, which a store
already outside ACTIVE and EMPTY does not get. -/
def State.finalNone (s : State) (e : EngineId) : State :=
  let i := s.workStation e
  let s := s.dropEntry e i
  let s := s.updEngine e (fun x => { x with needs := none })
  if (s.store i).working then
    (s.updEngine e (fun x => { x with bandAwaited := some i })).placeEngineRead i true
  else s.afterRead e

/-- R114, R115, R204: the eject is no longer outstanding, and its count memory record is cleared. -/
def State.clearEject (s : State) (e : EngineId) (i : Station) : State :=
  ((s.updEngine e (fun x => { x with outstanding := none, needs := none })).updStore i
    (fun r => { r with ejectRecord := none })).writeCounts

/-- R121: a NONE from the module: a repeat under RETRY while repeats are left, else a final NONE. With its entry cut to
nothing (R80) there is no item left to repeat for, and the NONE is final (DESIGN CHOICE, log 47). -/
def State.resultNone (s : State) (e : EngineId) : State :=
  let x := s.engine e
  if x.state = .running ∧ x.mode = some .retry ∧ x.repeats < x.retry ∧ listHas (s.payList e) (s.workStation e) then
    (s.updEngine e (fun x => { x with repeats := x.repeats + 1 })).tryEject e
  else s.finalNone e

/-- R116, R117: the first item of a result counted against the entry the eject was made for; paid and delivered stop at
the top of their range (log 44). -/
def Rec.itemPaid (denomination k : Nat) (i : Station) (r : Rec) : Rec :=
  let r := { r with paid := saturate (r.paid + k * denomination) }
  if listHas r.list i then
    { r.relisted (takeItems r.list i 1) with delivered := r.delivered.map (fun v => saturate (v + denomination)) }
  else r

/-- R116, R117, R132: k items of one eject counted out: the module tally, HELD, the record or the run and the cashbox,
the store's count, eviction, and the capture of a DOUBLE. -/
def State.countEject (s : State) (e : EngineId) (i : Station) (k : Nat) (held : Bool) : State :=
  let d := (s.store i).cfg.denomination
  let countBefore := (s.store i).count
  let tag := (s.engine e).record
  let against := listHas (s.payList e) i
  let s := s.updEngine e (fun x =>
    { x with
      outstanding := none
      needs := none
      repeats := 0
      planItems := x.planItems + (if against then 1 else 0)
      run := x.run.map (fun run => { run with counted := run.counted + k }) })
  let s := s.updStore i (fun r =>
    { r with
      ejectRecord := none
      moduleTally := r.moduleTally + BitVec.ofNat 8 k
      held := held
      burst := r.burst + k
      reserved := r.reserved - (if against then 1 else 0) })
  let s :=
    match s.payRecord e with
    | some (j, _) => s.updRec j (Rec.itemPaid d k i)
    | none => s
  let s := s.countOut i k none
  let s := if e = .m then s.countBoxTimes d k else s
  let s := s.evict i
  if k = 2 then s.faultStore i (plainFault .doubleFeed (some countBefore) (.engine e) tag) none else s

/-- R21: after an item that leaves the engine needing the store: the burst may end and the grant pass on, the engine
behind those that wait; else the next EJECT. -/
def State.nextItem (s : State) (e : EngineId) : State :=
  let i := s.workStation e
  if 8 ≤ (s.store i).burst then
    if (s.store i).waiting = [] then (s.updStore i (fun r => { r with burst := 0 })).tryEject e
    else
      match enginePoint e with
      | none => (s.releaseGrant e).requestRun
      | some p => (s.releaseGrant e).walkFree p walkRounds
  else s.tryEject e

/-- R116 to R118, R126, R132: an ITEM or DOUBLE handled: counted, the band read asked at the end of an entry, and the
engine's next step. A goal that the item meets ends engine M's run at once, before its store is looked at (DESIGN
CHOICE, log 62). -/
def State.resultItems (s : State) (e : EngineId) (i : Station) (k : Nat) (held : Bool) : State :=
  let finished := listHas (s.payList e) i && itemsAt (s.payList e) i ≤ 1
  let s := s.countEject e i k held
  match enginePoint e with
  | none =>
    if (s.engine e).state = .ending then s.endRun ((s.engine e).endCause.getD .aborted)
    else if s.boxStops then s.endRun .cashbox
    else if ((s.engine e).run.map s.goalMet).getD true then s.endRun .complete
    else s.nextItem e
  | some p =>
    let s := if finished then s.placeEngineRead i false else s
    if (s.engine e).state = .ending then s.endPayout p
    else if listHas (s.payList e) i then s.nextItem e
    else (s.releaseGrant e).walkFree p walkRounds

/-- R113 to R115: an engine's exchange on a silent or unusable module, the store already taken OFFLINE. -/
def State.engineFailed (s : State) (e : EngineId) (i : Station) : State := (s.clearEject e i).notGrantableHeld e

/-- R115: the result deadline passed: a final NONE. -/
def State.deadlineNone (s : State) (e : EngineId) (i : Station) : State := (s.clearEject e i).finalNone e

/-! ## What other events do to an engine (R80, R132, R176) -/

/-- Whether the engine's own exchange of an operation is on the bus. -/
def State.onBus (s : State) (e : EngineId) (op : TubeOp) : Bool :=
  match s.bus.exchange with
  | some x => x.requester == .engine e && x.op == op && !x.abandoned
  | none => false

/-- Whether an eject of the engine is outstanding or its EJECT is under way (log 16). -/
def State.ejecting (s : State) (e : EngineId) : Bool := (s.engine e).outstanding.isSome || s.onBus e .eject

/-- R176, R119: a piece of work with a read after a final NONE, whose store has left ACTIVE and EMPTY: that read is not
made, whether an engine still awaits it or not, and work that serves nothing else leaves the list (R173). -/
def State.unmade (s : State) (w : Work) : Option Work :=
  if w.afterNone = false ∨ (s.store w.station).working then some w
  else if w.cause = .read ∧ !w.verifies ∧ !w.attention ∧ !w.asked then none
  else some { w with afterNone := false }

/-- R176: the reads after a final NONE that are not made any more leave what waits and what is deferred. -/
def State.dropUnmade (s : State) : State :=
  let s' := s.changeWaiting (fun ws => ws.filterMap s.unmade)
  s'.setReconciler { s'.reconciler with deferred := s'.reconciler.deferred.filterMap s.unmade }

/-- Whether the head's exchange on the bus belongs to an awaited read of the station. -/
def State.readUnderWay (s : State) (i : Station) : Bool :=
  s.headInFlight && (s.reconciler.work.head?.map (fun w => w.station == i && w.afterNone)).getD false

/-- R176: the wait for a band read ends at once when the store leaves ACTIVE and EMPTY before the read is made. The read
itself is dropped by State.dropUnmade. -/
def State.endWait (s : State) (e : EngineId) : State :=
  match (s.engine e).bandAwaited with
  | some i => if (s.store i).working || s.readUnderWay i then s else s.afterRead e
  | none => s

/-- R80: an engine whose entry a cut finished, with no eject outstanding, releases its store and takes up the next
entry. -/
def State.resumeCut (s : State) (p : PointId) : State :=
  let e := pointEngine p
  let x := s.engine e
  if x.state ≠ .idle ∧ x.grant ≠ .none ∧ x.bandAwaited = none ∧ !s.ejecting e
      ∧ !listHas (s.payList e) (s.workStation e) then
    ((s.giveUpBus (.engine e)).leaveStore e).walkFree p walkRounds
  else s

/-- R132: the cashbox REMOVED or FULL during a run of engine M. -/
def State.stopRun (s : State) : State :=
  let x := s.engine .m
  if x.state = .running ∧ s.boxStops then
    if s.ejecting .m then s.updEngine .m (fun x => { x with state := .ending, endCause := some .cashbox })
    else s.endRun .cashbox
  else s

/-- What an action's changes to stores, lists and the cashbox mean for the engines, taken at its end (log 17), and the
reconciler's request for the bus. -/
def State.settleBlocks (s : State) : State :=
  (((((((s.dropUnmade.endWait .p1).endWait .p2).endWait .m).resumeCut .p1).resumeCut .p2).stopRun).prune).kick

/-! ## The end of an action -/

/-- R211: a record whose list changed in an action, however often, has its list change number one further than before
it. -/
def Rec.relistedOnce (before : Option Rec) (r : Rec) : Rec :=
  match before with
  | some b => if b.tag = r.tag ∧ b.listChange ≠ r.listChange then { r with listChange := b.listChange + 1#8 } else r
  | none => r

/-- R211: every record's list change number one further at most than in the state before the action. -/
def State.relistOnce (before s : State) : State :=
  { s with records := s.records.zipWith (fun r b => r.map (Rec.relistedOnce b)) before.records }

/-- A meaning's answer when no engine, store or bus request is concerned: the masks recomputed (R93). -/
def State.answer (s : State) : Answer := .next s.refreshMasks

/-- A meaning's answer after changes to stores, lists, the cashbox or the bus. -/
def State.answerAll (s : State) : Answer := .next s.settleBlocks.refreshMasks

/-- The answer of a meaning in which one list may change more than once (R211). -/
def State.answerOnce (s before : State) : Answer := .next (before.relistOnce s.settleBlocks).refreshMasks

/-- The start of an action: what the acceptor lines sent before is gone. -/
def State.begun (s : State) : State :=
  (s.updPoint .p1 (fun x => { x with sent := [] })).updPoint .p2 (fun x => { x with sent := [] })

end Sys2Proof.Machine
end

