-- ==== Sys2Proof/Machine/Reports.lean ====
section
/-! DEFINITION. The reports as bytes (R19, R47, R48, R66, R106, R165, R170, R206, R210, R211). -/

namespace Sys2Proof.Machine

/-- The k bytes sent for an absent field whose bytes the manual does not state, at their place in the report (log 9).
n is State.free. -/
def gap (n place k : Nat) : List Byte := (List.range k).map (fun j => Config.filler n (place + j))

/-- A field of k bytes: its number while present, free bytes while absent. -/
def fieldOr (n place k : Nat) : Option Nat → List Byte
  | some v => bytesOf k v
  | none => gap n place k

/-- A money field, sent as 0 when absent (R210). -/
def moneyBytes (v : Option Nat) : List Byte := bytesOf 3 (v.getD 0)

/-- An entry of a reservation list in a report: station, denomination and items (R66, R211). -/
def State.entryBytes (s : State) (en : Entry) : List Byte :=
  bytesOf 1 (en.station.val + 1) ++ bytesOf 2 (s.store en.station).cfg.denomination ++ bytesOf 1 en.items

/-! ## Record report (R47, R48, R66) -/

/-- The header of every part of a record report. -/
def recordHeader (i : Slot) (r : Rec) : List Byte :=
  bytesOf 2 r.tag ++ bytesOf 1 (i.val + 1) ++ bytesOf 1 r.kind.code ++ bytesOf 1 r.state.code
    ++ bytesOf 4 r.stateSince.toNat

/-- The MONEY part. -/
def State.moneyPart (s : State) (i : Slot) (r : Rec) : List Byte :=
  recordHeader i r ++ bytesOf 1 (((s.pointOf r.tag).map pointCode).getD 0)
    ++ [bit 0 r.owed.isSome ||| bit 1 r.shortfall.isSome ||| bit 2 r.pinned]
    ++ bytesOf 3 r.due ++ bytesOf 3 r.tendered ++ bytesOf 3 r.excess ++ moneyBytes r.owed ++ bytesOf 3 r.paid
    ++ moneyBytes r.remaining ++ bytesOf 3 r.overpaid ++ bytesOf 3 r.balanceDue ++ moneyBytes r.shortfall

/-- The settled from bits of the plan byte: the value code, or free bits while absent. -/
def settledFromBits (n : Nat) : Option SettledFrom → Byte
  | some f => BitVec.ofNat 8 (f.code * 32)
  | none => Config.filler n 9 &&& 0x60#8

/-- The PLAN part from the first entry asked. The pinned mark stands in the MONEY part alone, as R47, R86 and R211's
layouts have it, though R84 speaks of it with the PLAN part (DESIGN CHOICE, log 74). -/
def State.planPart (s : State) (i : Slot) (r : Rec) (first : Nat) : List Byte :=
  recordHeader i r ++ [bit 7 r.planned.isSome ||| settledFromBits s.free r.settledFrom ||| bit 4 r.delivered.isSome]
    ++ moneyBytes r.planned ++ moneyBytes r.delivered ++ fieldOr s.free 16 4 (r.lapseAt.map BitVec.toNat)
    ++ [r.listChange] ++ bytesOf 1 (r.list.length * 16 + first)
    ++ ((r.list.drop first).take 4).flatMap s.entryBytes

/-- The TIMES part. -/
def State.timesPart (s : State) (i : Slot) (r : Rec) : List Byte :=
  recordHeader i r ++ [bit 0 r.lapseAt.isSome] ++ bytesOf 4 r.openedAt.toNat
    ++ fieldOr s.free 14 4 (r.lapseAt.map BitVec.toNat) ++ bytesOf 4 s.time.toNat

/-- R47, R211: one part of the record report. -/
def State.recordPart (s : State) (i : Slot) (r : Rec) (part : Byte) (first : Byte) : List Byte :=
  if part = 1#8 then s.moneyPart i r
  else if part = 2#8 then s.planPart i r first.toNat
  else s.timesPart i r

/-- R211: the first entry argument of QUERY-RECORD: 0 to 11 with PLAN, and 0 with MONEY and TIMES. -/
def firstEntryFits (part first : Byte) : Bool := if part = 2#8 then first.toNat ≤ 11 else first = 0#8

/-- R48: the live records from a slot on. -/
def State.recordsFrom (s : State) (from_ : Slot) : List (Slot × Rec) :=
  s.liveRecords.filter (fun p => from_.val ≤ p.1.val)

/-- R48: a page of the record list. The slot at which the next page begins is that of the next live record (DESIGN
CHOICE, log 50). -/
def State.listPage (s : State) (from_ : Slot) : List Byte :=
  let found := s.recordsFrom from_
  bytesOf 1 s.liveRecords.length
    ++ bytesOf 1 (match found.drop 12 with
        | [] => 0
        | p :: _ => p.1.val + 1)
    ++ (found.take 12).flatMap (fun p => bytesOf 2 p.2.tag ++ bytesOf 1 p.2.state.code)

/-- R66, R211: the settle reply, with the list as committed. -/
def State.settleReply (s : State) (outcome pass planned shortfall lender : Nat) (lapseAt : Option Time)
    (list : List Entry) : List Byte :=
  bytesOf 1 outcome ++ bytesOf 1 pass ++ bytesOf 3 planned ++ bytesOf 3 shortfall ++ bytesOf 1 ((list.map Entry.items).sum)
    ++ bytesOf 2 lender ++ fieldOr s.free 11 4 (lapseAt.map BitVec.toNat) ++ bytesOf 1 list.length
    ++ (list.take 5).flatMap s.entryBytes

/-! ## Store report (R19) -/

/-- The place of the n-th waiting engine in the arbiter byte. -/
def waitingCode (waiting : List EngineId) (n : Nat) : Nat := (waiting[n]?.map engineCode).getD 0

/-- R19: the store report. -/
def State.storeReport (s : State) (i : Station) : List Byte :=
  let r := s.store i
  let c := r.cfg
  bytesOf 1 (i.val + 1)
    ++ [bit 7 c.present ||| BitVec.ofNat 8 (c.kind.code * 64 + c.edge.code * 16) ||| bit 3 c.staging
        ||| BitVec.ofNat 8 r.state.code]
    ++ [bit 7 r.unverified ||| bit 6 r.low ||| bit 5 r.high ||| bit 4 r.nearFull ||| bit 3 r.held
        ||| BitVec.ofNat 8 ((r.bandLast.map (fun b => bandCode b.1)).getD 0)]
    ++ bytesOf 2 c.denomination ++ bytesOf 2 c.capacity ++ bytesOf 2 c.floor ++ bytesOf 2 c.low ++ bytesOf 2 c.high
    ++ bytesOf 2 c.routeLimit ++ bytesOf 1 c.window ++ bytesOf 2 r.count ++ bytesOf 2 r.reserved
    ++ bytesOf 4 r.inTally.toNat ++ bytesOf 4 r.outTally.toNat
    ++ bytesOf 2 r.freeCount ++ bytesOf 2 r.firstPass ++ bytesOf 2 r.secondPass
    ++ bytesOf 1 ((r.holder.map engineCode).getD 0 * 64 + waitingCode r.waiting 0 * 16 + waitingCode r.waiting 1 * 4
        + waitingCode r.waiting 2)
    ++ fieldOr s.free 35 4 (r.bandLast.map (fun b => b.2.toNat))

/-! ## Point report (R106) -/

def bindingCode : Binding → Nat
  | .none => 0 | .record _ => 1 | .float _ => 2

def bindingTag : Binding → Nat
  | .record tag => tag
  | _ => 0

/-- The state of the bound record. -/
def State.boundState (s : State) (p : PointId) : Option RecState :=
  match (s.point p).binding with
  | .record tag => (s.lookup tag).map (fun x => x.2.state)
  | _ => none

/-- The float total, present while the binding is FLOAT. -/
def floatTotal : Binding → Option Nat
  | .float total => some total
  | _ => none

/-- The POINT part. The one byte of the release owed count shows it modulo 256 (DESIGN CHOICE, log 79). -/
def State.pointPart (s : State) (p : PointId) : List Byte :=
  let x := s.point p
  bytesOf 1 (pointCode p) ++ bytesOf 1 (bindingCode x.binding) ++ bytesOf 2 (bindingTag x.binding)
    ++ fieldOr s.free 4 1 ((s.boundState p).map RecState.code) ++ bytesOf 1 x.line.code
    ++ [bit 0 x.routeOut.isSome ||| bit 1 (!x.releaseOwed.isEmpty) ||| bit 2 x.lastNoted.isSome
        ||| bit 3 (floatTotal x.binding).isSome ||| bit 4 x.recognised.isSome]
    ++ fieldOr s.free 7 1 (x.routeOut.map BitVec.toNat) ++ bytesOf 1 x.releaseOwed.length
    ++ fieldOr s.free 9 1 (x.releaseOwed.head?.map (fun o => o.1.toNat))
    ++ fieldOr s.free 10 1 (x.lastNoted.map BitVec.toNat) ++ bytesOf 2 (maskBits (x.recognised.getD []) x.mask)
    ++ bytesOf 1 x.queue.length ++ fieldOr s.free 14 1 (x.queue.head?.map (fun c => c.item.toNat))
    ++ bytesOf 3 x.unclaimed ++ moneyBytes (floatTotal x.binding) ++ bytesOf 1 (s.setup p).inhibit
    ++ bytesOf 1 (s.engine (pointEngine p)).state.code

/-- The RECOGNISED part. -/
def State.recognisedPart (s : State) (p : PointId) : List Byte :=
  let ds := (s.point p).recognised.getD []
  bytesOf 1 (pointCode p) ++ bytesOf 1 ds.length ++ ds.flatMap (bytesOf 2)

/-- A QUEUE entry's route byte. -/
def routeByte (c : Credit) : Byte :=
  bit 7 c.applied ||| BitVec.ofNat 8 (match c.route with
    | none => 0
    | some (.store i) => i.val + 1
    | some .cashbox => 15)

/-- The QUEUE part from the first entry asked; one at or beyond the queue's length gives no entries (DESIGN CHOICE,
log 70). -/
def State.queuePart (s : State) (p : PointId) (first : Byte) : List Byte :=
  let q := (s.point p).queue
  bytesOf 1 (pointCode p) ++ bytesOf 1 q.length ++ fieldOr s.free 2 1 (q.head?.map (fun c => c.item.toNat)) ++ [first]
    ++ ((q.drop first.toNat).take 4).flatMap (fun c =>
        [c.item] ++ bytesOf 2 c.denomination ++ bytesOf 4 c.acceptedAt.toNat ++ [routeByte c])

/-- A field of an engine that is present while it is not IDLE. -/
def Engine.running (x : Engine) (v : Nat) : Option Nat := if x.state = .idle then none else some v

/-- The ENGINE part. Bit n - 1 of the excluded stores is station n (DESIGN CHOICE, log 71). -/
def State.enginePart (s : State) (p : PointId) : List Byte :=
  let x := s.engine (pointEngine p)
  bytesOf 1 (pointCode p) ++ bytesOf 1 x.state.code ++ bytesOf 2 (x.record.getD 0)
    ++ fieldOr s.free 4 1 (x.mode.map PayMode.code) ++ fieldOr s.free 5 1 (x.running x.retry)
    ++ bytesOf 1 (((s.planCursor (pointEngine p)).map (fun i => i.val + 1)).getD 0) ++ fieldOr s.free 7 1 (x.running x.grant.code)
    ++ bytesOf 1 ((x.outstanding.map (fun o => o.station.val + 1)).getD 0)
    ++ fieldOr s.free 9 1 (x.outstanding.map (fun o => o.dest.code))
    ++ fieldOr s.free 10 1 (x.outstanding.map Outstanding.repeats)
    ++ fieldOr s.free 11 4 (x.outstanding.map (fun o => o.repliedAt.toNat))
    ++ fieldOr s.free 15 1 (x.running x.planItems) ++ fieldOr s.free 16 2 (x.running x.excluded.toNat)
    ++ bytesOf 1 ((x.bandAwaited.map (fun i => i.val + 1)).getD 0)

/-- R106, R211: one part of the point report. -/
def State.pointReport (s : State) (p : PointId) (part first : Byte) : List Byte :=
  if part = 1#8 then s.pointPart p
  else if part = 2#8 then s.recognisedPart p
  else if part = 3#8 then s.queuePart p first
  else s.enginePart p

/-- QUERY-POINT's point, part and first entry, where the tables name the point and the part (R210). A first entry given
with a part that is not paged has no meaning stated, and is ignored (DEDUCED, log 24). -/
def QueryPointFields.formed (f : QueryPointFields) : Option (PointId × Byte × Byte) :=
  if f.part = 1#8 ∨ f.part = 2#8 ∨ f.part = 3#8 ∨ f.part = 4#8 then (pointOf f.point).map (fun p => (p, f.part, f.first))
  else none

/-! ## Cashbox and fault reports (R165, R170) -/

/-- R165: the cashbox report, with engine M's run and last run, 0 while absent. -/
def State.cashboxReport (s : State) : List Byte :=
  let c := s.cashbox
  let x := s.engine .m
  bytesOf 2 c.count ++ bytesOf 3 c.value ++ bytesOf 2 c.looseCount ++ bytesOf 3 c.looseValue
    ++ [bit 7 (decide (c.presence = .inPlace)) ||| BitVec.ofNat 8 c.state.code]
    ++ bytesOf 2 s.system.boxCapacity ++ bytesOf 2 s.system.boxNearFull ++ bytesOf 1 x.state.code
    ++ (match x.run with
        | none => bytesOf 6 0
        | some r =>
          bytesOf 1 r.kind.code ++ bytesOf 1 (r.station.val + 1) ++ bytesOf 2 r.goal ++ bytesOf 2 r.counted)
    ++ (match x.lastRun with
        | none => bytesOf 9 0
        | some r =>
          bytesOf 1 r.kind.code ++ bytesOf 1 (r.station.val + 1) ++ bytesOf 2 r.counted ++ bytesOf 4 r.value
            ++ bytesOf 1 r.outcome.code)

/-- R168, R170: the extra field of a capture. An absent tag, of engine M's DOUBLE-FEED, is sent as 0 (R210), and so is
the absent band of a JAM that a STATUS flag presented (DEDUCED, log 42); a code that has no extra leaves free bytes
(log 9). -/
def extraBytes (n : Nat) (c : Capture) : List Byte :=
  match c.extra with
  | some v => bytesOf 2 v
  | none => if c.code = .doubleFeed ∨ c.code = .jam then bytesOf 2 0 else gap n 15 2

/-- A bank's fields in the fault report, free bytes for those absent. -/
def bankBytes (n : Nat) (b : Bank) : List Byte :=
  [bit 7 b.capture.isSome ||| bit 6 b.overflow ||| (match b.capture with
    | some c => bit 5 c.code.uncorrected
    | none => Config.filler n 2 &&& 0x20#8)]
    ++ fieldOr n 3 1 (b.capture.map (fun c => c.code.code)) ++ fieldOr n 4 4 (b.capture.map (fun c => c.time.toNat))
    ++ fieldOr n 8 2 (b.capture.bind Capture.countAt) ++ fieldOr n 10 2 (b.capture.bind Capture.expected)
    ++ fieldOr n 12 2 (b.capture.bind Capture.observed) ++ fieldOr n 14 1 (b.capture.map (fun c => c.source.code))
    ++ (match b.capture with
      | some c => extraBytes n c
      | none => gap n 15 2)

/-- R170: the fault report of a store's bank. -/
def State.storeFaultReport (s : State) (i : Station) : List Byte :=
  bytesOf 1 1 ++ bytesOf 1 (i.val + 1) ++ bankBytes s.free (s.storeBank i) ++ bytesOf 1 (s.store i).state.code

/-- R170: the fault report of a point's bank. -/
def State.pointFaultReport (s : State) (p : PointId) : List Byte :=
  bytesOf 1 2 ++ bytesOf 1 (pointCode p) ++ bankBytes s.free (s.pointBank p) ++ bytesOf 1 0

/-! ## Set-up and cause replies (R200, R201, R206) -/

/-- R200: the point's entry as stored. -/
def PointSetup.reply (p : PointSetup) : List Byte := p.bytes

/-- R201: the system entry as stored. -/
def SystemSetup.reply (y : SystemSetup) : List Byte := y.bytes

/-- R206: the READ-CAUSE byte and the time count. -/
def State.causeReport (s : State) : List Byte :=
  [bit 0 s.causes.power ||| bit 1 s.causes.brownout ||| bit 2 s.causes.pin ||| bit 3 s.causes.link
    ||| bit 4 s.setupFault ||| bit 5 s.startUp.ended ||| bit 6 s.unsaved ||| bit 7 s.countLost]
    ++ bytesOf 4 s.time.toNat

end Sys2Proof.Machine
end

