-- ==== Sys2Proof/Machine/Link.lean ====
section
/-! DEFINITION. Taking a command at a link port and answering it (R184 to R193). -/

namespace Sys2Proof.Machine

/-- What a command is taken with: its port, and the qualifiers its frame consumed (R191). -/
structure Taken where
  port : PortId
  asPoint : Option PointId
  quiet : Bool
deriving DecidableEq, Repr

/-- R193: the port that QUIET keeps the command's direct results out of. -/
def Taken.except (k : Taken) : Option PortId := if k.quiet then some k.port else none

/-- The reply that leaves on a port (R185). Each reply takes a fresh number for its free bytes (log 9). -/
def State.respond (s : State) (p : PortId) (code : Byte) (status : Status) (contents : List Byte) : State :=
  (s.updPort p (fun x => { x with reply := some ⟨code, status, contents⟩ })).setFree (s.free + 1)

/-- A command's reply. -/
def State.done (s : State) (k : Taken) (c : Cmd) (status : Status) (contents : List Byte) : State :=
  s.respond k.port c.code status contents

/-- R189: a refusal that carries only its status, with nothing else changed. -/
def State.refuse (s : State) (k : Taken) (c : Cmd) (status : Status) : Answer := .next (s.done k c status [])

/-- R184: a whole frame has arrived: the port is in IDLE. -/
def State.framed (s : State) (p : PortId) : State :=
  s.begun.updPort p (fun x => { x with assembly := .idle, lastByteAt := none })

/-- R191: both qualifiers of a port become absent. -/
def State.dropQualifiers (s : State) (p : PortId) : State :=
  s.updPort p (fun x => { x with asPoint := none, quiet := false })

/-- R186 step 3: the commands taken during start-up. -/
def Cmd.duringStartUp : Cmd → Bool
  | .readEvents | .clearEvents | .setMask | .readCause => true
  | _ => false

/-- R188: the commands Port M takes in SETUP-FAULT. -/
def Cmd.duringSetupFault : Cmd → Bool
  | .setStore | .setPoint | .setSystem | .saveSetup | .readCause | .resetCommand | .queryRecord | .listRecords
  | .queryStore | .queryPoint | .queryCashbox | .readFault | .readEvents | .clearEvents | .setMask | .enable
  | .disable => true
  | _ => false

/-- R187: the commands open to Ports A and B. -/
def Cmd.openToWindows : Cmd → Bool
  | .openRecord | .amend | .bind | .unbind | .handover | .voidRecord | .closeShort | .retire | .settle | .pay | .abort
  | .queryRecord | .listRecords | .queryStore | .queryPoint | .queryCashbox | .readFault | .readEvents | .clearEvents
  | .setMask => true
  | _ => false

/-- R186 steps 3 to 5: the refusal a command meets before its body is looked at. -/
def State.gate (s : State) (p : PortId) (c : Cmd) : Option Status :=
  if !s.startUp.ended && !c.duringStartUp then some .busy
  else if s.setupFault && !(p = .m && c.duringSetupFault) then some .setUpFault
  else if p ≠ .m ∧ !c.openToWindows then some .privilege
  else none

/-- R186 step 7: reply owed is set as the command is taken. -/
def State.owe (s : State) (p : PortId) (c : Cmd) : State := s.updPort p (fun x => { x with replyOwed := some c })

/-- The state a command's own rule works on: the frame taken, its qualifiers consumed, its reply owed. -/
def State.taken (s : State) (p : PortId) (c : Cmd) : State := ((s.framed p).dropQualifiers p).owe p c

/-- What a command arriving on a port is taken with. -/
def State.qualifiers (s : State) (p : PortId) : Taken := ⟨p, (s.port p).asPoint, (s.port p).quiet⟩

/-- R183, R184: a frame is discarded while a reply is owed on its port, and while the controller drives the pair with a
reply that is owed no more: a refusal before step 7, or the answer to a qualifier or to a frame answered CHECK. -/
def Port.deaf (x : Port) : Bool := x.replyOwed.isSome || x.reply.isSome

/-- R186 steps 3 to 6, R191: a COMMAND frame refused before it is taken: its qualifiers consumed, and no reply owed. -/
def State.turnAway (s : State) (p : PortId) (c : Cmd) (status : Status) : Answer :=
  .next (((s.framed p).dropQualifiers p).respond p c.code status [])

/-- R183, R184, R186: a COMMAND frame that is not discarded consumes the port's qualifiers and passes steps 3 to 7. The
form names what the code bytes of its body stand for, none for a byte or bit that the tables give no meaning (step 6,
R210); the rule is the command's own. -/
def State.takeCommand {α β : Type} (s : State) (p : PortId) (c : Cmd) (body : Body α) (form : α → Option β)
    (rule : State → Taken → β → Answer) : Answer :=
  if (s.port p).deaf then .next s.begun
  else
    match s.gate p c with
    | some status => s.turnAway p c status
    | none =>
      match body with
      | .misfit => s.turnAway p c .range
      | .fits f =>
        match form f with
        | none => s.turnAway p c .range
        | some g => rule (s.taken p c) (s.qualifiers p) g

/-- R185: the reply of a command that waited for a tube bus exchange; all four are Port M's. -/
def State.deferredReply (s : State) (c : Cmd) (status : Status) (contents : List Byte) : State :=
  s.respond .m c.code status contents

/-- R193: what QUIET of a deferred command keeps its direct results out of. -/
def quietExcept (quiet : Bool) : Option PortId := if quiet then some .m else none

/-- R190: a QUALIFIER frame that is not discarded, answered with the qualifier's code. -/
def State.takeQualifier (s : State) (p : PortId) (code : Byte) (status : Status) (f : Port → Port) : Answer :=
  if (s.port p).deaf then .next s.begun
  else .next (((s.framed p).updPort p f).respond p code status [])

end Sys2Proof.Machine
end

