-- ==== Sys2Proof/Machine/Records.lean ====
section
/-! DEFINITION. The record commands (02 Tender Records, R35 to R48). -/

namespace Sys2Proof.Machine

/-- R35 steps 1 and 2: the arguments and the record a command names; the rest of its checks and its effect are its
rule's. -/
def State.withRecord (s : State) (k : Taken) (c : Cmd) (tag : BitVec 16) (argumentsFit : Bool)
    (rule : Slot → Rec → Answer) : Answer :=
  if tag = 0#16 ∨ argumentsFit = false then s.refuse k c .range
  else
    match s.lookup tag.toNat with
    | none => s.refuse k c .noRecord
    | some (i, r) => rule i r

/-- R27, R29: whether a money argument is in range. -/
def moneyFits (v : BitVec 24) : Bool := decide (v.toNat ≤ moneyMax)

/-- R41 to R46, R99: a point's binding changes, and credits that waited are applied to the new binding. -/
def State.rebind (s : State) (p : PointId) (b : Binding) : State := (s.setBinding p b).applyCredits p

/-- R41, R44: the record's point, if any, becomes unbound. -/
def State.unbound (s : State) (tag : Nat) : State :=
  match s.pointOf tag with
  | some p => s.rebind p .none
  | none => s

/-! ## OPEN (R36 to R38) -/

/-- R36: the record OPEN creates. -/
def Rec.fresh (unit : Nat) (now : Time) (tag : Nat) (kind : RecKind) (due : Nat) : Rec where
  tag := tag
  kind := kind
  state := .opened
  due := due
  tendered := 0
  excess := 0
  owed := owedOf unit kind due 0
  paid := 0
  planned := none
  delivered := none
  list := []
  shortfall := none
  pinned := false
  settledFrom := none
  openedAt := now
  stateSince := now
  lapseAt := none
  listChange := 0

/-- R25: the lowest-numbered free slot. -/
def State.lowestFree (s : State) : Option Slot := allSlots.find? (fun i => (s.slot i).isNone)

/-- R38: the final record to reclaim: the oldest by state since, the lower slot in a tie. -/
def State.toReclaim (s : State) : Option (Slot × Rec) :=
  oldest s.time (s.liveRecords.filter (fun p => p.2.state = .paid || p.2.state = .void))

/-- R38, R46: a record's slot is freed and its point becomes unbound. -/
def State.retired (s : State) (i : Slot) (r : Rec) : State :=
  match s.pointOf r.tag with
  | some p => (s.freeSlot i).applyCredits p
  | none => s.freeSlot i

/-- The reply to OPEN: the slot taken and the tag reclaimed, 0 when none. -/
def openReply (i : Slot) (reclaimed : Nat) : List Byte := bytesOf 1 (i.val + 1) ++ bytesOf 2 reclaimed

/-- OPEN's arguments with the kind its code byte names. -/
def OpenFields.formed (f : OpenFields) : Option (OpenFields × RecKind) := (recKindOf f.kind).map (fun kind => (f, kind))

/-- OPEN's own rule (R35 to R38). -/
def ruleOpen (s : State) (k : Taken) (f : OpenFields × RecKind) : Answer :=
  if f.1.tag = 0#16 ∨ moneyFits f.1.due = false then s.refuse k .openRecord .range
  else if (s.findTag f.1.tag.toNat).isSome then s.refuse k .openRecord .duplicate
  else
    let r := Rec.fresh s.system.unit s.time f.1.tag.toNat f.2 f.1.due.toNat
    match s.lowestFree with
    | some i => ((s.setSlot i (some r)).done k .openRecord .done (openReply i 0)).answer
    | none =>
      match s.toReclaim with
      | none => s.refuse k .openRecord .full
      | some (i, old) =>
        (((((s.retired i old).latch .recordReclaimed k.except).setSlot i (some r)).done k .openRecord .done
          (openReply i old.tag))).answer

/-- OPEN (R36). -/
def execOpenRecord (port : PortId) (body : Body OpenFields) (s : State) : Answer :=
  s.takeCommand port .openRecord body OpenFields.formed ruleOpen

/-! ## AMEND (R39) -/

/-- R39: the record after AMEND: due, owed and the SHORT mark. -/
def Rec.amended (unit due : Nat) (r : Rec) : Rec :=
  { r with due := due, owed := owedOf unit r.kind due r.tendered, shortfall := none }

/-- R39 step 1: a SETTLED record's reservation is released, and it goes to TENDERING or OPEN. -/
def State.unsettledByAmend (s : State) (i : Slot) (r : Rec) : State :=
  if r.state = .settled then
    (s.release i).updRec i (fun x =>
      x.enter (if (s.pointOf r.tag).isSome then .tendering else .opened) s.time)
  else s

/-- The reply to AMEND: the new owed, or the balance due. -/
def amendReply (r : Rec) : List Byte := [boolByte r.owed.isSome] ++ bytesOf 3 (r.owed.getD r.balanceDue)

/-- AMEND's own rule (R39). -/
def ruleAmend (s : State) (k : Taken) (f : AmendFields) : Answer :=
  s.withRecord k .amend f.tag (moneyFits f.due) (fun i r =>
    match r.state with
    | .paying => s.refuse k .amend .busy
    | .paid | .void => s.refuse k .amend .state
    | .opened | .tendering | .settled | .partPaid | .interrupted =>
      if r.kind = .sale ∧ 0 < r.paid ∧ r.tendered < f.due.toNat then s.refuse k .amend .hasCash
      else
        (((s.unsettledByAmend i r).updRec i (Rec.amended s.system.unit f.due.toNat)).done k .amend .done
          (amendReply (r.amended s.system.unit f.due.toNat))).answer)

/-- AMEND (R39). -/
def execAmend (port : PortId) (body : Body AmendFields) (s : State) : Answer := s.takeCommand port .amend body some ruleAmend

/-! ## BIND, UNBIND, HANDOVER (R40 to R43) -/

/-- R40: the unclaimed credit a BIND applies to the record: all of it for a SALE record, and none for a REFUND
record. -/
def State.claimed (s : State) (p : PointId) (r : Rec) : Nat :=
  match r.kind with
  | .sale => (s.point p).unclaimed
  | .refund => 0

/-- R40: the point's unclaimed credit applied as one credit, and set to 0. -/
def State.applyUnclaimed (s : State) (p : PointId) (i : Slot) (r : Rec) : State :=
  if s.claimed p r = 0 then s
  else (s.creditRecord i (s.claimed p r)).updPoint p (fun x => { x with unclaimed := 0 })

/-- R40: the record bound to the point; from OPEN it goes to TENDERING. -/
def State.bound (s : State) (p : PointId) (i : Slot) (r : Rec) : State :=
  let s := if r.state = .opened then s.updRec i (fun x => x.enter .tendering s.time) else s
  s.rebind p (.record r.tag)

/-- BIND's and HANDOVER's tag with the point that the code byte names. -/
def TagPointFields.formed (f : TagPointFields) : Option (BitVec 16 × PointId) :=
  (pointOf f.point).map (fun p => (f.tag, p))

/-- BIND's own rule (R40). -/
def ruleBind (s : State) (k : Taken) (f : BitVec 16 × PointId) : Answer :=
  let p := f.2
  s.withRecord k .bind f.1 true (fun i r =>
    if r.state = .paying then s.refuse k .bind .busy
    else if s.pointOf r.tag = some p then .next (s.done k .bind .done (bytesOf 3 0))
    else
      match r.state with
      | .paying | .paid | .void => s.refuse k .bind .state
      | .opened | .tendering | .settled | .partPaid | .interrupted =>
        if (s.pointOf r.tag).isSome ∨ (s.point p).binding ≠ .none then s.refuse k .bind .point
        else if r.state = .tendering then s.refuse k .bind .state
        else
          (((s.bound p i r).applyUnclaimed p i r).done k .bind .done (bytesOf 3 (s.claimed p r))).answer)

/-- BIND (R40). -/
def execBind (port : PortId) (body : Body TagPointFields) (s : State) : Answer :=
  s.takeCommand port .bind body TagPointFields.formed ruleBind

/-- UNBIND's own rule (R41). -/
def ruleUnbind (s : State) (k : Taken) (f : TagFields) : Answer :=
  s.withRecord k .unbind f.tag true (fun i r =>
    if r.state = .paying then s.refuse k .unbind .busy
    else
      match s.pointOf r.tag with
      | none => .next (s.done k .unbind .done [])
      | some p =>
        let s' := if r.state = .tendering then s.updRec i (fun x => x.enter .opened s.time) else s
        ((s'.rebind p .none).done k .unbind .done []).answer)

/-- UNBIND (R41). -/
def execUnbind (port : PortId) (body : Body TagFields) (s : State) : Answer := s.takeCommand port .unbind body some ruleUnbind

/-- HANDOVER's own rule (R42). A record in OPEN has no point and is refused with POINT (DEDUCED, log 25). -/
def ruleHandover (s : State) (k : Taken) (f : BitVec 16 × PointId) : Answer :=
  let p := f.2
  s.withRecord k .handover f.1 true (fun _ r =>
    match r.state with
    | .paying => s.refuse k .handover .busy
    | .void => s.refuse k .handover .state
    | .opened | .tendering | .settled | .partPaid | .interrupted | .paid =>
      match s.pointOf r.tag with
      | none => s.refuse k .handover .point
      | some old =>
        if old = p then .next (s.done k .handover .done [])
        else if (s.point p).binding ≠ .none then s.refuse k .handover .point
        else (((s.rebind old .none).rebind p (.record r.tag)).done k .handover .done []).answer)

/-- HANDOVER (R42). -/
def execHandover (port : PortId) (body : Body TagPointFields) (s : State) : Answer :=
  s.takeCommand port .handover body TagPointFields.formed ruleHandover

/-! ## VOID, CLOSE-SHORT, RETIRE (R44 to R46) -/

/-- VOID's own rule (R44). -/
def ruleVoid (s : State) (k : Taken) (f : TagFields) : Answer :=
  s.withRecord k .voidRecord f.tag true (fun i r =>
    match r.state with
    | .paying => s.refuse k .voidRecord .busy
    | .paid => s.refuse k .voidRecord .state
    | .void => .next (s.done k .voidRecord .done [])
    | .opened | .tendering | .settled | .partPaid | .interrupted =>
      if 0 < r.tendered ∨ 0 < r.paid then s.refuse k .voidRecord .hasCash
      else
        ((((s.release i).updRec i (fun x => x.enter .void s.time)).unbound r.tag).done k .voidRecord .done []).answer)

/-- VOID (R44). -/
def execVoidRecord (port : PortId) (body : Body TagFields) (s : State) : Answer :=
  s.takeCommand port .voidRecord body some ruleVoid

/-- A shortfall above 0 sets the SHORT mark (R33, R45). -/
def shortMark (n : Nat) : Option Nat := if n = 0 then none else some n

/-- CLOSE-SHORT's own rule (R45). -/
def ruleCloseShort (s : State) (k : Taken) (f : TagFields) : Answer :=
  s.withRecord k .closeShort f.tag true (fun i r =>
    match r.state with
    | .paying => s.refuse k .closeShort .busy
    | .settled | .paid | .void => s.refuse k .closeShort .state
    | .opened | .tendering | .partPaid | .interrupted =>
      match r.remaining with
      | none => .next (s.done k .closeShort .shortTender (bytesOf 3 r.balanceDue))
      | some short =>
        ((s.updRec i (fun x => { x.enter .paid s.time with shortfall := shortMark short })).done k .closeShort .done
          (bytesOf 3 short)).answer)

/-- CLOSE-SHORT (R45). -/
def execCloseShort (port : PortId) (body : Body TagFields) (s : State) : Answer :=
  s.takeCommand port .closeShort body some ruleCloseShort

/-- RETIRE's own rule (R46): STATE in every state but PAID and VOID, PAYING among them (log 26). -/
def ruleRetire (s : State) (k : Taken) (f : TagFields) : Answer :=
  s.withRecord k .retire f.tag true (fun i r =>
    match r.state with
    | .paid | .void => ((s.retired i r).done k .retire .done []).answer
    | .opened | .tendering | .settled | .paying | .partPaid | .interrupted => s.refuse k .retire .state)

/-- RETIRE (R46). -/
def execRetire (port : PortId) (body : Body TagFields) (s : State) : Answer := s.takeCommand port .retire body some ruleRetire

/-! ## QUERY-RECORD and LIST-RECORDS (R47, R48) -/

/-- QUERY-RECORD's arguments with a part that the tables name. -/
def QueryRecordFields.formed (f : QueryRecordFields) : Option QueryRecordFields :=
  if f.part = 1#8 ∨ f.part = 2#8 ∨ f.part = 3#8 then some f else none

/-- QUERY-RECORD's own rule (R47, R211). -/
def ruleQueryRecord (s : State) (k : Taken) (f : QueryRecordFields) : Answer :=
  s.withRecord k .queryRecord f.tag (firstEntryFits f.part f.first) (fun i r =>
    .next (s.done k .queryRecord .done (s.recordPart i r f.part f.first)))

/-- QUERY-RECORD (R47). -/
def execQueryRecord (port : PortId) (body : Body QueryRecordFields) (s : State) : Answer :=
  s.takeCommand port .queryRecord body QueryRecordFields.formed ruleQueryRecord

/-- LIST-RECORDS' own rule (R48). -/
def ruleListRecords (s : State) (k : Taken) (f : ByteFields) : Answer :=
  match slotOf f.value with
  | none => s.refuse k .listRecords .range
  | some i => .next (s.done k .listRecords .done (s.listPage i))

/-- LIST-RECORDS (R48). -/
def execListRecords (port : PortId) (body : Body ByteFields) (s : State) : Answer :=
  s.takeCommand port .listRecords body some ruleListRecords

end Sys2Proof.Machine
end

