-- ==== Sys2Proof/Machine/Settle.lean ====
section
/-! DEFINITION. SETTLE (03 Change Planning R63 to R67, 04 R84). -/

namespace Sys2Proof.Machine

/-- R65, R75: the moment a plan committed now lapses. -/
def State.newLapse (s : State) : Time := s.time + BitVec.ofNat 32 (s.system.hold * 100)

/-- R33, R65: where a SETTLE found the record. -/
def Rec.foundIn (r : Rec) : Option SettledFrom :=
  match r.state with
  | .partPaid => some .partPaid
  | .interrupted => some .interrupted
  | .settled => r.settledFrom
  | .opened | .tendering | .paying | .paid | .void => some .new

/-- R65: the record a committed plan makes. -/
def Rec.settledWith (now lapseAt : Time) (planned : Nat) (list : List Entry) (shortfall : Option Nat) (r : Rec) : Rec :=
  { r.relisted list with
    state := .settled
    stateSince := now
    planned := some planned
    delivered := none
    shortfall := shortfall
    pinned := false
    settledFrom := r.foundIn
    lapseAt := some lapseAt }

/-- R65 to R67: a plan committed for the record in a slot: its old list released and the new one reserved. -/
def State.commitPlan (s : State) (i : Slot) (r : Rec) (list : List Entry) (shortfall : Option Nat) : State :=
  ((s.unreserve r.list).reserve list).updRec i
    (Rec.settledWith s.time s.newLapse (s.listValue list) list shortfall)

/-- R84: a borrowing committed: both old lists released, then both new lists reserved, and the lender pinned. -/
def State.commitBorrowed (s : State) (i : Slot) (r : Rec) (list : List Entry) (j : Slot) (lender : Rec)
    (lenderList : List Entry) : State :=
  ((((s.unreserve lender.list).unreserve r.list).reserve list).reserve lenderList
    |>.updRec j (fun y => { y.relisted lenderList with pinned := true }))
    |>.updRec i (Rec.settledWith s.time s.newLapse (s.listValue list) list none)

/-- R64: the record goes to PAID without a plan. -/
def State.settlePaid (s : State) (i : Slot) : State :=
  (s.release i).updRec i (fun x => { x.enter .paid s.time with shortfall := none })

/-- The outcome and pass codes of a settle reply (R211). -/
def passCode : Pass → Nat
  | .first => 1
  | .second => 2

/-- R59, R65 to R67: a SETTLE with a positive target: the plan committed and answered, or NO-CHANGE. -/
def settlePlanned (s : State) (k : Taken) (i : Slot) (r : Rec) (target : Nat) : Answer :=
  match s.planSettle i r target with
  | .exact pass list =>
    ((s.commitPlan i r list none).done k .settle .done
      (s.settleReply 1 (passCode pass) (s.listValue list) 0 0 (some s.newLapse) list)).answer
  | .borrowed list j lender lenderList =>
    match s.slot j with
    | none => s.refuse k .settle .noChange
    | some y =>
      (((s.commitBorrowed i r list j y lenderList).latch .replanned k.except).done k .settle .done
        (s.settleReply 1 3 (s.listValue list) 0 lender (some s.newLapse) list)).answer
  | .short amount list =>
    ((s.commitPlan i r list (some (target - amount))).done k .settle .done
      (s.settleReply 2 2 (s.listValue list) (target - amount) 0 (some s.newLapse) list)).answer
  | .noPlan could => .next (s.done k .settle .noChange (bytesOf 3 target ++ bytesOf 3 could))

/-- SETTLE's own rule (R63). -/
def ruleSettle (s : State) (k : Taken) (f : TagFields) : Answer :=
  s.withRecord k .settle f.tag true (fun i r =>
    match r.state with
    | .paying => s.refuse k .settle .busy
    | .paid | .void => s.refuse k .settle .state
    | .opened | .tendering | .settled | .partPaid | .interrupted =>
      match r.remaining with
      | none => .next (s.done k .settle .shortTender (bytesOf 3 r.balanceDue))
      | some 0 =>
        match r.kind with
        | .sale => ((s.settlePaid i).done k .settle .done (s.settleReply 3 0 0 0 0 none [])).answer
        | .refund => s.refuse k .settle .state
      | some (n + 1) => settlePlanned s k i r (n + 1))

/-- SETTLE (R63). -/
def execSettle (port : PortId) (body : Body TagFields) (s : State) : Answer := s.takeCommand port .settle body some ruleSettle

end Sys2Proof.Machine
end

