-- ==== Sys2Proof/Machine/Payout.lean ====
section
/-! DEFINITION. PAY, ABORT, SKIM, SKIM-TO and TEST-EJECT (06 R111, R112, R126, R129 to R131). -/

namespace Sys2Proof.Machine

/-! ## PAY (R111, R112) -/

/-- R112: the point a PAY acts for; on Port M without AS-POINT, the record's own. -/
def payFor (k : Taken) (bound : PointId) : PointId :=
  match k.asPoint with
  | some p => p
  | none => (ownPoint k.port).getD bound

/-- R111: the record in PAYING. -/
def Rec.startedPaying (now : Time) (r : Rec) : Rec :=
  { r with
    state := .paying
    stateSince := now
    delivered := some 0
    pinned := false
    lapseAt := none
    settledFrom := none }

/-- R111: the engine RUNNING for a record, with the payout mode and retry count read from the point's set-up entry. -/
def Engine.startedPaying (tag : Nat) (y : PointSetup) : Engine :=
  { Engine.reset with state := .running, record := some tag, mode := some y.mode, retry := y.retry }

/-- R111: the payout of the record in a slot started at its point, and the walk of R113 begun. -/
def State.startPayout (s : State) (p : PointId) (i : Slot) (r : Rec) : State :=
  ((s.updRec i (Rec.startedPaying s.time)).setEngine (pointEngine p) (Engine.startedPaying r.tag (s.setup p))).walkFree p
    walkRounds

/-- PAY's own rule (R111). -/
def rulePay (s : State) (k : Taken) (f : TagFields) : Answer :=
  s.withRecord k .pay f.tag true (fun i r =>
    match r.state with
    | .paying => s.refuse k .pay .busy
    | .opened | .tendering | .partPaid | .interrupted | .paid | .void => s.refuse k .pay .state
    | .settled =>
      match s.pointOf r.tag with
      | none => s.refuse k .pay .point
      | some p =>
        if payFor k p ≠ p then s.refuse k .pay .point
        else
          ((s.done k .pay .started
            (bytesOf 1 (pointCode p) ++ bytesOf 3 (r.planned.getD 0) ++ bytesOf 1 (listItems r.list))).startPayout p i
              r).answerOnce s)

/-- PAY (R111). -/
def execPay (port : PortId) (body : Body TagFields) (s : State) : Answer := s.takeCommand port .pay body some rulePay

/-! ## ABORT (R126) -/

/-- R126, R192: whether a port may name an engine. -/
def mayAbort (k : Taken) (e : EngineId) : Bool :=
  match k.port with
  | .m => true
  | .a => e = .p1 || (k.asPoint.map pointEngine) = some e
  | .b => e = .p2 || (k.asPoint.map pointEngine) = some e

/-- R125, R133: a running engine with nothing outstanding ended by an ABORT. -/
def State.abortNow (s : State) (e : EngineId) : State :=
  match enginePoint e with
  | some p => s.endPayout p
  | none => s.endRun .aborted

/-- R126: a running engine sent to ENDING. -/
def State.abortLater (s : State) (e : EngineId) : State :=
  s.updEngine e (fun x => { x with state := .ending, endCause := some .aborted })

/-- ABORT's own rule (R126). -/
def ruleAbort (s : State) (k : Taken) (e : EngineId) : Answer :=
  if mayAbort k e = false then s.refuse k .abort .privilege
  else
    match (s.engine e).state with
    | .idle | .ending => .next (s.done k .abort .done [])
    | .running =>
      if s.ejecting e || (s.engine e).bandAwaited.isSome then ((s.abortLater e).done k .abort .started []).answerAll
      else ((s.abortNow e).done k .abort .done []).answerOnce s

/-- ABORT (R126). -/
def execAbort (port : PortId) (body : Body ByteFields) (s : State) : Answer :=
  s.takeCommand port .abort body (fun f => engineOf f.value) ruleAbort

/-! ## Engine M (R129 to R131) -/

/-- R129: the checks of a run's engine, cashbox and store. -/
def State.runRefusal (s : State) (i : Station) : Option Status :=
  if (s.engine .m).state ≠ .idle then some .busy
  else if s.boxStops then some .state
  else if (s.store i).state ≠ .active then some .state
  else none

/-- The store's count less its reserved (R129 to R132). -/
def Store.unreserved (r : Store) : Nat := r.count - r.reserved

/-- R129 to R131: a run of engine M started, and its store asked for. The last run stays in the report. -/
def State.startRun (s : State) (kind : RunKind) (i : Station) (goal : Nat) : State :=
  (s.setEngine .m
    { Engine.reset with state := .running, run := some ⟨kind, i, goal, 0⟩, lastRun := (s.engine .m).lastRun }).requestRun

/-- SKIM's own rule (R129). -/
def ruleSkim (s : State) (k : Taken) (f : SkimFields) : Answer :=
  match stationOf f.station with
  | none => s.refuse k .skim .range
  | some i =>
    if f.items.toNat < 1 ∨ 2000 < f.items.toNat then s.refuse k .skim .range
    else
      match s.runRefusal i with
      | some status => s.refuse k .skim status
      | none =>
        if (s.store i).unreserved = 0 then .next (s.done k .skim .done (bytesOf 2 0))
        else
          ((s.done k .skim .started (bytesOf 2 (min f.items.toNat (s.store i).unreserved))).startRun .skim i
            f.items.toNat).answerAll

/-- SKIM (R129). -/
def execSkim (port : PortId) (body : Body SkimFields) (s : State) : Answer := s.takeCommand port .skim body some ruleSkim

/-- SKIM-TO's own rule (R130). -/
def ruleSkimTo (s : State) (k : Taken) (f : SkimFields) : Answer :=
  match stationOf f.station with
  | none => s.refuse k .skimTo .range
  | some i =>
    if 2000 < f.items.toNat then s.refuse k .skimTo .range
    else
      match s.runRefusal i with
      | some status => s.refuse k .skimTo status
      | none =>
        if (s.store i).unreserved ≤ f.items.toNat then .next (s.done k .skimTo .done (bytesOf 2 0))
        else
          ((s.done k .skimTo .started (bytesOf 2 ((s.store i).unreserved - f.items.toNat))).startRun .skimTo i
            f.items.toNat).answerAll

/-- SKIM-TO (R130). -/
def execSkimTo (port : PortId) (body : Body SkimFields) (s : State) : Answer :=
  s.takeCommand port .skimTo body some ruleSkimTo

/-- TEST-EJECT's own rule (R131). -/
def ruleTestEject (s : State) (k : Taken) (f : ByteFields) : Answer :=
  match stationOf f.value with
  | none => s.refuse k .testEject .range
  | some i =>
    match s.runRefusal i with
    | some status => s.refuse k .testEject status
    | none =>
      if (s.store i).unreserved = 0 then s.refuse k .testEject .state
      else ((s.done k .testEject .started []).startRun .testEject i 1).answerAll

/-- TEST-EJECT (R131). -/
def execTestEject (port : PortId) (body : Body ByteFields) (s : State) : Answer :=
  s.takeCommand port .testEject body some ruleTestEject

end Sys2Proof.Machine
end

