-- ==== Sys2Proof/Machine/Points.lean ====
section
/-! DEFINITION. QUERY-POINT, CLEAR-UNCLAIMED, FLOAT-BEGIN, FLOAT-END (05 R102, R104 to R106) and SET-POINT
(11 R200). -/

namespace Sys2Proof.Machine

/-- QUERY-POINT's own rule (R106, R211). -/
def ruleQueryPoint (s : State) (k : Taken) (f : PointId × Byte × Byte) : Answer :=
  .next (s.done k .queryPoint .done (s.pointReport f.1 f.2.1 f.2.2))

/-- QUERY-POINT (R106). -/
def execQueryPoint (port : PortId) (body : Body QueryPointFields) (s : State) : Answer :=
  s.takeCommand port .queryPoint body QueryPointFields.formed ruleQueryPoint

/-- The point that a body of one code byte names. -/
def ByteFields.pointFormed (f : ByteFields) : Option PointId := pointOf f.value

/-- CLEAR-UNCLAIMED's own rule (R102). -/
def ruleClearUnclaimed (s : State) (k : Taken) (p : PointId) : Answer :=
  .next ((s.updPoint p (fun x => { x with unclaimed := 0 })).done k .clearUnclaimed .done
    (bytesOf 3 (s.point p).unclaimed))

/-- CLEAR-UNCLAIMED (R102). -/
def execClearUnclaimed (port : PortId) (body : Body ByteFields) (s : State) : Answer :=
  s.takeCommand port .clearUnclaimed body ByteFields.pointFormed ruleClearUnclaimed

/-- FLOAT-BEGIN's own rule (R104). -/
def ruleFloatBegin (s : State) (k : Taken) (p : PointId) : Answer :=
  match (s.point p).binding with
  | .float _ => .next (s.done k .floatBegin .done [])
  | .record _ => s.refuse k .floatBegin .point
  | .none =>
    if (s.point p).queue ≠ [] then s.refuse k .floatBegin .busy
    else ((s.setBinding p (.float 0)).done k .floatBegin .done []).answer

/-- FLOAT-BEGIN (R104). -/
def execFloatBegin (port : PortId) (body : Body ByteFields) (s : State) : Answer :=
  s.takeCommand port .floatBegin body ByteFields.pointFormed ruleFloatBegin

/-- FLOAT-END's own rule (R105). -/
def ruleFloatEnd (s : State) (k : Taken) (p : PointId) : Answer :=
  match (s.point p).binding with
  | .none | .record _ => s.refuse k .floatEnd .state
  | .float total =>
    if (s.point p).queue ≠ [] then s.refuse k .floatEnd .busy
    else ((s.setBinding p .none).done k .floatEnd .done (bytesOf 3 total)).answer

/-- FLOAT-END (R105). -/
def execFloatEnd (port : PortId) (body : Body ByteFields) (s : State) : Answer :=
  s.takeCommand port .floatEnd body ByteFields.pointFormed ruleFloatEnd

/-- R200: the point's entry with the named fields changed and clamped. -/
def PointSetup.changed (f : SetPointFields) (y : PointSetup) : PointSetup where
  mode := (fieldValue payModeOf f.mode).getD y.mode
  short := (fieldValue boolOf f.short).getD y.short
  retry := clamp 0 7 ((f.retry.map BitVec.toNat).getD y.retry)
  itemsLimit := clamp 1 100 ((f.itemsLimit.map BitVec.toNat).getD y.itemsLimit)
  inhibit := clamp 4 15 ((f.inhibit.map BitVec.toNat).getD y.inhibit)

/-- A point's entry stored in the working copy (R199). -/
def State.storeSetup (s : State) (p : PointId) (y : PointSetup) : State :=
  { s with pointSetup := pairPut s.pointSetup p y, unsaved := s.unsaved || decide (y ≠ s.setup p) }

/-- SET-POINT's point and fields, where the tables name the point and the code bytes given (R210, log 20). -/
def SetPointFields.formed (f : SetPointFields) : Option (PointId × SetPointFields) :=
  if fieldFits payModeOf f.mode && fieldFits boolOf f.short then (pointOf f.point).map (fun p => (p, f)) else none

/-- SET-POINT's own rule (R200). -/
def ruleSetPoint (s : State) (k : Taken) (f : PointId × SetPointFields) : Answer :=
  let y := (s.setup f.1).changed f.2
  ((s.storeSetup f.1 y).done k .setPoint .done y.reply).answer

/-- SET-POINT (R200). -/
def execSetPoint (port : PortId) (body : Body SetPointFields) (s : State) : Answer :=
  s.takeCommand port .setPoint body SetPointFields.formed ruleSetPoint

end Sys2Proof.Machine
end

