-- ==== Sys2Proof/Machine/StoreCommands.lean ====
section
/-! DEFINITION. QUERY-STORE, DISABLE, ENABLE, SET-STORE (01 R16 to R19), the refill commands (08 R151, R154, R156) and
QUERY-CASHBOX (08 R165). -/

namespace Sys2Proof.Machine

/-- QUERY-STORE's own rule (R19). -/
def ruleQueryStore (s : State) (k : Taken) (f : ByteFields) : Answer :=
  match stationOf f.value with
  | none => s.refuse k .queryStore .range
  | some i => .next (s.done k .queryStore .done (s.storeReport i))

/-- QUERY-STORE (R19). -/
def execQueryStore (port : PortId) (body : Body ByteFields) (s : State) : Answer :=
  s.takeCommand port .queryStore body some ruleQueryStore

/-- DISABLE's own rule (R16). A store already DISABLED is answered DONE though its reserved is above 0 (DESIGN CHOICE,
log 68). -/
def ruleDisable (s : State) (k : Taken) (f : ByteFields) : Answer :=
  match stationOf f.value with
  | none => s.refuse k .disable .range
  | some i =>
    let r := s.store i
    if r.state = .disabled then .next (s.done k .disable .done [])
    else if 0 < r.reserved ∨ r.holder.isSome ∨ r.state = .refill then s.refuse k .disable .state
    else ((s.setStoreState i .disabled).done k .disable .done []).answerAll

/-- DISABLE (R16). -/
def execDisable (port : PortId) (body : Body ByteFields) (s : State) : Answer :=
  s.takeCommand port .disable body some ruleDisable

/-- R17: a DISABLED store returned to service: ACTIVE or EMPTY by count and UNVERIFIED, with a STATUS read, its settings
and a band read placed in that order. Settings or a band read of the station that wait already from before serve where
they stand (R173), ahead of the STATUS read (DESIGN CHOICE, log 48). -/
def State.enabled (s : State) (i : Station) : State :=
  (((s.updStore i (fun r => { r.returned with unverified := true })).place (newWork i .statusRead [.status])).settingsDue
    i false).placeVerify i

/-- ENABLE's own rule (R17). -/
def ruleEnable (s : State) (k : Taken) (f : ByteFields) : Answer :=
  match stationOf f.value with
  | none => s.refuse k .enable .range
  | some i =>
    if s.fitted i = false then s.refuse k .enable .state
    else
      match (s.store i).state with
      | .jammed | .offline | .refill => s.refuse k .enable .state
      | .active | .empty => .next (s.done k .enable .done [])
      | .disabled => ((s.enabled i).done k .enable .done []).answerAll

/-- ENABLE (R17). -/
def execEnable (port : PortId) (body : Body ByteFields) (s : State) : Answer :=
  s.takeCommand port .enable body some ruleEnable

/-! ## SET-STORE (R18) -/

/-- R24: the eject window of a store kind whose window is not given. -/
def kindWindow : StoreKind → Nat
  | .coin => 30
  | .note => 90

/-- R18, R24: the station's entry with the named fields changed, before it is brought into order. -/
def StoreCfg.changed (f : SetStoreFields) (c : StoreCfg) : StoreCfg :=
  let kind := (fieldValue storeKindOf f.kind).getD c.kind
  { present := (fieldValue boolOf f.present).getD c.present
    kind := kind
    denomination := (numberField f.denomination).getD c.denomination
    capacity := (numberField f.capacity).getD c.capacity
    floor := (numberField f.floor).getD c.floor
    low := (numberField f.low).getD c.low
    high := (numberField f.high).getD c.high
    routeLimit := (numberField f.routeLimit).getD c.routeLimit
    edge := (fieldValue edgeOf f.edge).getD c.edge
    window := (f.window.map BitVec.toNat).getD (if kind = c.kind then c.window else kindWindow kind)
    staging := (fieldValue boolOf f.staging).getD c.staging }

/-- R1, R18: whether five or more present stores share a denomination. -/
def crowded (cs : List StoreCfg) : Bool :=
  cs.any (fun c => c.present && decide (4 < (cs.filter (fun d => d.present && d.denomination == c.denomination)).length))

/-- SET-STORE's fields, where the tables name the code bytes given (R210, log 20). -/
def SetStoreFields.formed (f : SetStoreFields) : Option SetStoreFields :=
  if fieldFits boolOf f.present && fieldFits storeKindOf f.kind && fieldFits edgeOf f.edge && fieldFits boolOf f.staging
  then some f
  else none

/-- R18: the RANGE checks of SET-STORE. -/
def State.setStoreFits (s : State) (i : Station) (f : SetStoreFields) : Bool :=
  (match numberField f.denomination with
    | some d => decide (1 ≤ d ∧ d ≤ 50000)
    | none => true)
    && !crowded ((s.stores.map Store.cfg).set i.val ((s.store i).cfg.changed f) i.isLt).toList

/-- R18: whether a field that may be changed only in DISABLED is given with another value. -/
def StoreCfg.restricted (c d : StoreCfg) (f : SetStoreFields) : Bool :=
  c.present != d.present || c.kind != d.kind || c.denomination != d.denomination
    || (match numberField f.capacity with
        | some n => n != c.capacity
        | none => false)

/-- R5, R6, R18: the store with its new entry brought into order, its flags recomputed, and its tallies at 0 when the
baseline is given. -/
def Store.configured (c : StoreCfg) (baseline : Bool) (r : Store) : Store :=
  let r := { r with cfg := c.ordered r.count }
  (if baseline then { r with inTally := 0, outTally := 0 } else r).levelled

/-- R18, R199: the change stored in the store record and the working copy, with its edges (R7), count memory when the
baseline is given (R204), and the settings (R143): due when the window or staging changed, sent when a station whose
mark is set becomes present, and not sent when it becomes absent. -/
def State.configure (s : State) (i : Station) (c : StoreCfg) (baseline : Bool) (except : Option PortId) : State :=
  let before := s.store i
  let after := before.configured c baseline
  let s := s.setStore i after
  let s := { s with unsaved := s.unsaved || decide (after.cfg ≠ before.cfg) }
  let s := if edgeLatches before after then s.latch .storeLevel except else s
  let s := if baseline then s.writeCounts else s
  if after.cfg.window ≠ before.cfg.window ∨ after.cfg.staging ≠ before.cfg.staging then
    (s.settingsDue i false).dropSettings i
  else if before.cfg.present = after.cfg.present then s
  else (s.placeSettings i).dropSettings i

/-- SET-STORE's own rule (R18). Where both refusals apply, RANGE is answered (DESIGN CHOICE, log 58). -/
def ruleSetStore (s : State) (k : Taken) (f : SetStoreFields) : Answer :=
  match stationOf f.station with
  | none => s.refuse k .setStore .range
  | some i =>
    let c := (s.store i).cfg
    if s.setStoreFits i f = false then s.refuse k .setStore .range
    else if (c.restricted (c.changed f) f) ∧ (s.store i).state ≠ .disabled then s.refuse k .setStore .state
    else
      let s' := s.configure i (c.changed f) f.baseline k.except
      (s'.done k .setStore .done (s'.storeReport i)).answerAll

/-- SET-STORE (R18). -/
def execSetStore (port : PortId) (body : Body SetStoreFields) (s : State) : Answer :=
  s.takeCommand port .setStore body SetStoreFields.formed ruleSetStore

/-! ## The refill commands (R151, R154, R156) -/

/-- REFILL-BEGIN's own rule (R151). The reply waits for FILL-OPEN (R152). -/
def ruleRefillBegin (s : State) (k : Taken) (f : ByteFields) : Answer :=
  match stationOf f.value with
  | none => s.refuse k .refillBegin .range
  | some i =>
    let r := s.store i
    if r.working = false ∨ 0 < r.reserved ∨ r.holder.isSome then s.refuse k .refillBegin .state
    else ((s.setStoreState i .refill).place (newWork i (.refillBegin k.quiet) [.fillOpen])).answerAll

/-- REFILL-BEGIN (R151). -/
def execRefillBegin (port : PortId) (body : Body ByteFields) (s : State) : Answer :=
  s.takeCommand port .refillBegin body some ruleRefillBegin

/-- REFILL-END's own rule (R154). The reply waits for FILL-CLOSE. -/
def ruleRefillEnd (s : State) (k : Taken) (f : ByteFields) : Answer :=
  match stationOf f.value with
  | none => s.refuse k .refillEnd .range
  | some i =>
    if (s.store i).state ≠ .refill then s.refuse k .refillEnd .state
    else (s.place (newWork i (.refillEnd k.quiet) [.fillClose])).answerAll

/-- REFILL-END (R154). -/
def execRefillEnd (port : PortId) (body : Body ByteFields) (s : State) : Answer :=
  s.takeCommand port .refillEnd body some ruleRefillEnd

/-- REFILL-CANCEL's own rule (R156). The reply waits for FILL-CLOSE. -/
def ruleRefillCancel (s : State) (k : Taken) (f : ByteFields) : Answer :=
  match stationOf f.value with
  | none => s.refuse k .refillCancel .range
  | some i =>
    if (s.store i).state ≠ .refill then s.refuse k .refillCancel .state
    else (s.place (newWork i (.refillCancel k.quiet) [.fillClose])).answerAll

/-- REFILL-CANCEL (R156). -/
def execRefillCancel (port : PortId) (body : Body ByteFields) (s : State) : Answer :=
  s.takeCommand port .refillCancel body some ruleRefillCancel

/-- QUERY-CASHBOX's own rule (R165). -/
def ruleQueryCashbox (s : State) (k : Taken) (_ : NoFields) : Answer :=
  .next (s.done k .queryCashbox .done s.cashboxReport)

/-- QUERY-CASHBOX (R165). -/
def execQueryCashbox (port : PortId) (body : Body NoFields) (s : State) : Answer :=
  s.takeCommand port .queryCashbox body some ruleQueryCashbox

end Sys2Proof.Machine
end

