-- ==== Sys2Proof/Machine/SystemCommands.lean ====
section
/-! DEFINITION. READ-FAULT and CLEAR-FAULT (09 R170, R171), the event commands (10 R196 to R198), and SET-SYSTEM,
SAVE-SETUP, READ-CAUSE and RESET (11 R201, R202, R206). -/

namespace Sys2Proof.Machine

/-! ## Fault banks (R170, R171) -/

/-- What a bank's kind and number name (R210). -/
inductive BankName where
  | store (i : Station)
  | point (p : PointId)
deriving DecidableEq, Repr

/-- The bank of a READ-FAULT or CLEAR-FAULT: kind 1 with a station number, kind 2 with a point's code. A station number
that names no station passes the form, and the rule refuses it. -/
def BankFields.formed (f : BankFields) : Option (Option BankName) :=
  if f.kind = 1#8 then some ((stationOf f.number).map .store)
  else if f.kind = 2#8 then (pointOf f.number).map (fun p => some (.point p))
  else none

/-- READ-FAULT's own rule (R170). -/
def ruleReadFault (s : State) (k : Taken) (bank : Option BankName) : Answer :=
  match bank with
  | none => s.refuse k .readFault .range
  | some (.store i) => .next (s.done k .readFault .done (s.storeFaultReport i))
  | some (.point p) => .next (s.done k .readFault .done (s.pointFaultReport p))

/-- READ-FAULT (R170). -/
def execReadFault (port : PortId) (body : Body BankFields) (s : State) : Answer :=
  s.takeCommand port .readFault body BankFields.formed ruleReadFault

/-- CLEAR-FAULT's own rule (R171): the bank is emptied at once; for a JAMMED or OFFLINE store a STATUS exchange and the
reply follow (R12). -/
def ruleClearFault (s : State) (k : Taken) (bank : Option BankName) : Answer :=
  match bank with
  | none => s.refuse k .clearFault .range
  | some (.point p) => .next ((s.setPointBank p Bank.empty).done k .clearFault .done [])
  | some (.store i) =>
    match (s.store i).state with
    | .active | .empty | .refill | .disabled => .next ((s.setStoreBank i Bank.empty).done k .clearFault .done [])
    | .jammed | .offline =>
      ((s.setStoreBank i Bank.empty).place (newWork i (.clearFault k.quiet) [.status])).answerAll

/-- CLEAR-FAULT (R171). -/
def execClearFault (port : PortId) (body : Body BankFields) (s : State) : Answer :=
  s.takeCommand port .clearFault body BankFields.formed ruleClearFault

/-! ## Events (R196 to R198) -/

/-- READ-EVENTS' own rule (R196). The attention line byte is 1 while the line is active (DEDUCED, log 20). -/
def ruleReadEvents (s : State) (k : Taken) (_ : NoFields) : Answer :=
  let x := s.port k.port
  .next (s.done k .readEvents .done
    (bytesOf 2 x.latched.toNat ++ bytesOf 2 x.mask.toNat ++ [boolByte x.attention]))

/-- READ-EVENTS (R196). -/
def execReadEvents (port : PortId) (body : Body NoFields) (s : State) : Answer :=
  s.takeCommand port .readEvents body some ruleReadEvents

/-- R210: a set of kinds, whose bit 15 names no kind. -/
def KindsFields.formed (f : KindsFields) : Option (BitVec 16) := if f.kinds.getLsbD 15 then none else some f.kinds

/-- R197: a level-type kind that a clearing removes, latched again into the port while its condition holds. -/
def State.relatch (s : State) (kinds : BitVec 16) (x : Port) (k : Event) : BitVec 16 :=
  if s.levelHolds k ∧ x.latched &&& kinds &&& k.mask ≠ 0#16 then k.mask else 0#16

/-- R196, R197: the port's latched set after kinds are removed. -/
def State.clearedSet (s : State) (kinds : BitVec 16) (x : Port) : BitVec 16 :=
  (x.latched &&& ~~~ kinds) ||| s.relatch kinds x .storeFault ||| s.relatch kinds x .cashboxFull
    ||| s.relatch kinds x .cashboxRemoved

/-- CLEAR-EVENTS' own rule (R196, R197). -/
def ruleClearEvents (s : State) (k : Taken) (kinds : BitVec 16) : Answer :=
  let set := s.clearedSet kinds (s.port k.port)
  .next ((s.updPort k.port (fun x => { x with latched := set })).done k .clearEvents .done (bytesOf 2 set.toNat))

/-- CLEAR-EVENTS (R196). -/
def execClearEvents (port : PortId) (body : Body KindsFields) (s : State) : Answer :=
  s.takeCommand port .clearEvents body KindsFields.formed ruleClearEvents

/-- SET-MASK's own rule (R198). -/
def ruleSetMask (s : State) (k : Taken) (kinds : BitVec 16) : Answer :=
  .next ((s.updPort k.port (fun x => { x with mask := kinds })).done k .setMask .done (bytesOf 2 kinds.toNat))

/-- SET-MASK (R198). -/
def execSetMask (port : PortId) (body : Body KindsFields) (s : State) : Answer :=
  s.takeCommand port .setMask body KindsFields.formed ruleSetMask

/-! ## SET-SYSTEM, SAVE-SETUP, READ-CAUSE, RESET (R201, R202, R206) -/

/-- R164: the cashbox capacity and near-full level in order. -/
def SystemSetup.ordered (y : SystemSetup) : SystemSetup :=
  let capacity := clamp 1 5000 y.boxCapacity
  { y with boxCapacity := capacity, boxNearFull := clamp 1 capacity y.boxNearFull }

/-- R201: the system entry with the named fields changed and clamped. -/
def SystemSetup.changed (f : SetSystemFields) (y : SystemSetup) : SystemSetup :=
  SystemSetup.ordered
    { unit := (f.unit.map BitVec.toNat).getD y.unit
      hold := clamp 30 900 ((numberField f.hold).getD y.hold)
      boxCapacity := (numberField f.boxCapacity).getD y.boxCapacity
      boxNearFull := (numberField f.boxNearFull).getD y.boxNearFull
      attention := (f.attention.map (fun m => m.setWidth 12)).getD y.attention }

/-- SET-SYSTEM's fields, with no bit of the attention mask set above the twelve stations (R210). -/
def SetSystemFields.formed (f : SetSystemFields) : Option SetSystemFields :=
  match f.attention with
  | some m => if m.toNat < 4096 then some f else none
  | none => some f

/-- R201: the RANGE check of SET-SYSTEM. -/
def setSystemFits (f : SetSystemFields) : Bool :=
  match f.unit with
  | some u => u = 1#8 || u = 2#8 || u = 5#8 || u = 10#8
  | none => true

/-- R30, R201: whether U is given with another value while a record is live. -/
def State.unitHeld (s : State) (f : SetSystemFields) : Bool :=
  (match f.unit with
    | some u => u.toNat != s.system.unit
    | none => false)
    && !s.liveRecords.isEmpty

/-- The system entry stored in the working copy (R199), with the cashbox monitor's state and events (R163, R164). -/
def State.storeSystem (s : State) (y : SystemSetup) (except : Option PortId) : State :=
  State.boxRefresh { s with system := y, unsaved := s.unsaved || decide (y ≠ s.system) } except

/-- SET-SYSTEM's own rule (R201). A U of none of the four values while a record is live meets both refusals, and RANGE is
answered (DESIGN CHOICE, log 58). -/
def ruleSetSystem (s : State) (k : Taken) (f : SetSystemFields) : Answer :=
  if setSystemFits f = false then s.refuse k .setSystem .range
  else if s.unitHeld f then s.refuse k .setSystem .state
  else
    ((s.storeSystem (s.system.changed f) k.except).done k .setSystem .done (s.system.changed f).reply).answerOnce s

/-- SET-SYSTEM (R201). -/
def execSetSystem (port : PortId) (body : Body SetSystemFields) (s : State) : Answer :=
  s.takeCommand port .setSystem body SetSystemFields.formed ruleSetSystem

/-- R199: the working copy as the contents of a set-up block. -/
def State.workingCopy (s : State) : SetupData := ⟨s.stores.map Store.cfg, s.pointSetup, s.system⟩

/-- SAVE-SETUP's own rule (R202), by what the memory does with the write (log 27). -/
def ruleSaveSetup (write : WriteOutcome) (s : State) (k : Taken) (_ : NoFields) : Answer :=
  let block := SetupBlock.sealed s.workingCopy
  match write with
  | .landed => .next (State.done { s with setupBlock := block, unsaved := false } k .saveSetup .done [])
  | .badBlock => .next (State.done { s with setupBlock := block.spoilt } k .saveSetup .state [])
  | .badRead => .next (State.done { s with setupBlock := block } k .saveSetup .state [])

/-- SAVE-SETUP (R202). -/
def execSaveSetup (port : PortId) (body : Body NoFields) (write : WriteOutcome) (s : State) : Answer :=
  s.takeCommand port .saveSetup body some (ruleSaveSetup write)

/-- READ-CAUSE's own rule (R206): the flags returned and then cleared. -/
def ruleReadCause (s : State) (k : Taken) (_ : NoFields) : Answer :=
  .next (State.done { s with causes := ⟨false, false, false, false⟩, countLost := false } k .readCause .done
    s.causeReport)

/-- READ-CAUSE (R206). -/
def execReadCause (port : PortId) (body : Body NoFields) (s : State) : Answer :=
  s.takeCommand port .readCause body some ruleReadCause

/-- RESET's own rule (R206): the LINK reset begins once the reply has left. -/
def ruleReset (s : State) (k : Taken) (_ : NoFields) : Answer :=
  .next ((s.setStartUp { s.startUp with resetPending := true }).done k .resetCommand .done [])

/-- RESET (R206). -/
def execResetCommand (port : PortId) (body : Body NoFields) (s : State) : Answer :=
  s.takeCommand port .resetCommand body some ruleReset

end Sys2Proof.Machine
end

