-- ==== Sys2Proof/Machine/LinkEvents.lean ====
section
/-! DEFINITION. Qualifier frames, frames that are not commands, and the ends of frames and replies (10 R184 to R186,
R190, R191). -/

namespace Sys2Proof.Machine

/-- AS-POINT (R190, R192). -/
def execAsPoint (port : PortId) (body : Body ByteFields) (s : State) : Answer :=
  match body with
  | .misfit => s.takeQualifier port asPointCode .range id
  | .fits f =>
    match pointOf f.value with
    | none => s.takeQualifier port asPointCode .range id
    | some p => s.takeQualifier port asPointCode .done (fun x => { x with asPoint := some p })

/-- QUIET (R190, R193). -/
def execQuiet (port : PortId) (body : Body NoFields) (s : State) : Answer :=
  match body with
  | .misfit => s.takeQualifier port quietCode .range id
  | .fits _ => s.takeQualifier port quietCode .done (fun x => { x with quiet := true })

/-- A frame whose kind or code has no meaning (R186, R190). A COMMAND frame consumes the pending qualifiers (R191); a
kind and code that have a meaning are no such frame (log 11). -/
def execUnknown (port : PortId) (kind code : Byte) (s : State) : Answer :=
  if (s.port port).deaf ∨ knownFrame kind code then .next s.begun
  else
    let s := s.framed port
    let s := if kind = commandKind then s.dropQualifiers port else s
    .next (s.respond port code .unknown [])

/-- A frame with a bad check: answered CHECK with its code byte, and the qualifiers discarded (R184, R185, R191). -/
def execCheck (port : PortId) (code : Byte) (s : State) : Answer :=
  if (s.port port).deaf then .next s.begun
  else .next (((s.framed port).dropQualifiers port).respond port code .check [])

/-- The silence that ends a frame whose length byte is above 40: answered CHECK, and the qualifiers discarded (R184).
Its code byte was not received, so the reply's code byte is free (log 9). -/
def execLengthSilence (port : PortId) (length : Byte) (s : State) : Answer :=
  if (s.port port).deaf ∨ length.toNat ≤ 40 then .next s.begun
  else .next (((s.framed port).dropQualifiers port).respond port (Config.filler s.free 0) .check [])

/-- More than 50 ms between two bytes: the partial frame is discarded, and the qualifiers kept (R184, R191). -/
def execInterByteGap (port : PortId) (s : State) : Answer :=
  let s :=
    match (s.port port).lastByteAt with
    | some t => s.reach t 5
    | none => s
  .next (s.framed port)

/-- A frame whose last byte arrives while a reply is owed on its port: discarded whole (R184), as is one whose bytes
arrive while a reply is sent (R183, log 19). -/
def execFrameWhileReplyOwed (_port : PortId) (s : State) : Answer := .next s.begun

/-- The last byte of a port's reply has left: reply owed is none (R183, R186). -/
def execReplySent (port : PortId) (s : State) : Answer :=
  if (s.port port).reply.isSome then
    .next (s.begun.updPort port (fun x => { x with replyOwed := none, reply := none }))
  else .next s.begun

end Sys2Proof.Machine
end

