-- ==== Sys2Proof/Machine/Acceptor.lean ====
section
/-! DEFINITION. The acceptor lines (05 R89 to R93, 09 R180, R181), the lapse of a hold (04 R76 to R78) and the
cashbox presence sensor (08 R162, R163). -/

namespace Sys2Proof.Machine

/-! ## Messages from the acceptor -/

/-- Whether a denomination is in the range of the recognised set (R88, R90). -/
def denominationFits (d : Nat) : Bool := decide (1 ≤ d ∧ d ≤ 50000)

/-- R90: an ACCEPTED taken in line state UP. A repeat is answered NOTED again and adds nothing. A denomination out of
range takes the line LOST (R180), a repeat's too (DESIGN CHOICE, log 52); the line is lost before any RELEASE, so that
an overrun item waits in release owed (DESIGN CHOICE, log 55). -/
def State.acceptedUp (s : State) (p : PointId) (item : Byte) (d : Nat) : State :=
  let s := (s.heard p).send p (.noted item)
  let s :=
    if (s.point p).lastNoted = some item then s
    else
      (s.updPoint p (fun x => { x with lastNoted := some item })).takeIn p item (if denominationFits d then d else 0)
  if denominationFits d then s.routeNext p else s.loseLine p badReportReason

/-- ACCEPTED (R90, R98, R180, R181). During start-up, before the IDENTIFY, it is discarded (log 4). -/
def execAccepted (point : PointId) (item : Byte) (denomination : BitVec 24) (s : State) : Answer :=
  let s := s.begun
  if s.startUp.ended = false then .next s
  else
    match (s.point point).line with
    | .starting => .next s
    | .lost => (s.startLine point).answer
    | .up => (s.acceptedUp point item denomination.toNat).answerOnce s

/-- R91: whether an IDENT is well-formed. The 1 to 16 denominations are counted as listed, repeats among them (DESIGN
CHOICE, log 75). -/
def identFits (recognised : List (BitVec 16)) : Bool :=
  decide (1 ≤ recognised.length ∧ recognised.length ≤ 16) && recognised.all (fun d => denominationFits d.toNat)

/-- R91 step 2: the numbers the held list matches are those of the unrouted entries and of release owed. -/
def Point.matchesHeld (x : Point) (item : Byte) : Bool :=
  x.queue.any (fun c => c.item == item && c.route.isNone) || x.releaseOwed.any (fun o => o.1 == item)

/-- R91 step 2: the held items with no match taken in as new, in the order of the held list. before is the point as the
IDENT found it, so that a number held twice with no match is taken in twice (DESIGN CHOICE, log 75). A held denomination
outside 1 to 50,000 is taken in as 0, as R90 gives (log 28). -/
def State.takeHeld (s : State) (p : PointId) (before : Point) : List (Byte × BitVec 16) → State
  | [] => s
  | (item, d) :: rest =>
    (if before.matchesHeld item then s
      else s.takeIn p item (if denominationFits d.toNat then d.toNat else 0)).takeHeld p before rest

/-- R91 step 2, R96: one unrouted entry missing from the held list: counted into the cashbox and routed, without a
RELEASE. Its DIVERT, where one is in progress, is carried to its end without it, so that the item is counted once
(DESIGN CHOICE, log 53). -/
def State.missing (s : State) (p : PointId) (c : Credit) : State :=
  let s := if (s.point p).routeOut = some c.item then s.giveUpBus (.intake p) else s
  (s.countBox c.denomination).updPoint p (fun x =>
    { x with
      queue := setRoute c.item .cashbox x.queue
      routeOut := if x.routeOut = some c.item then none else x.routeOut })

/-- R91 step 2: the unrouted entries missing from the held list. -/
def State.allMissing (s : State) (p : PointId) (held : List (Byte × BitVec 16)) : List Credit → State
  | [] => s
  | c :: cs =>
    (if c.route.isNone && !held.any (fun h => h.1 == c.item) then s.missing p c else s).allMissing p held cs

/-- R91: a well-formed IDENT handled by its four steps. The held list is taken in before the missing entries are counted
(log 29). A denomination listed twice stands twice in the recognised set (DESIGN CHOICE, log 75). -/
def State.identified (s : State) (p : PointId) (recognised : List (BitVec 16)) (held : List (Byte × BitVec 16)) : State :=
  let before := s.point p
  let s := s.updPoint p (fun x => { x with recognised := some (recognised.map BitVec.toNat) })
  let s := ((s.takeHeld p before held).allMissing p held before.queue).dropDone p
  let s := s.updPoint p (fun x => { x with lastNoted := held.getLast?.map Prod.fst, line := .up, watch := some s.time })
  let s := s.updPoint p (fun x => { x with mask := s.acceptMask p })
  (s.sendMask p).routeNext p

/-- IDENT (R91, R181). One that is not well-formed is discarded; during start-up every message is (log 4). -/
def execIdent (point : PointId) (recognised : List (BitVec 16)) (held : List (Byte × BitVec 16)) (s : State) : Answer :=
  let s := s.begun
  if s.startUp.ended = false ∨ identFits recognised = false then .next s
  else (s.identified point recognised held).answerOnce s

/-- MASK-HELD (R93, R180, R181). -/
def execMaskHeld (point : PointId) (_mask : BitVec 16) (s : State) : Answer :=
  let s := s.begun
  if s.startUp.ended = false then .next s
  else
    match (s.point point).line with
    | .starting => .next s
    | .lost => (s.startLine point).answer
    | .up => .next (s.heard point)

/-- A message with a bad check is discarded as if not received (R180). -/
def execAcceptorBadCheck (_point : PointId) (s : State) : Answer := .next s.begun

/-! ## The line's timers -/

/-- R93: the mask sent every 200 ms while the line is UP, measured from the MASK-UPDATE sent last, whatever its cause
(DESIGN CHOICE, log 54). -/
def execMaskUpdate (point : PointId) (s : State) : Answer :=
  let s := s.begun
  if (s.point point).line ≠ .up then .next s
  else
    let s :=
      match (s.point point).maskSentAt with
      | some t => s.reach t 20
      | none => s
    .next ((s.updPoint point (fun x => { x with mask := s.acceptMask point })).sendMask point)

/-- No message for 1,000 ms in line state UP (R180). -/
def execSilent (point : PointId) (s : State) : Answer :=
  let s := s.begun
  match (s.point point).line, (s.point point).watch with
  | .up, some t => ((s.reach t 100).loseLine point silentReason).answerAll
  | _, _ => .next s

/-- No IDENT within 1,000 ms of the IDENTIFY (R180). -/
def execNoIdent (point : PointId) (s : State) : Answer :=
  let s := s.begun
  match (s.point point).line, (s.point point).watch with
  | .starting, some t => ((s.reach t 100).loseLine point noIdentReason).answerAll
  | _, _ => .next s

/-- IDENTIFY sent every 1,000 ms in LOST (R181). -/
def execIdentify (point : PointId) (s : State) : Answer :=
  let s := s.begun
  match (s.point point).line, (s.point point).watch with
  | .lost, some t =>
    let s := s.reach t 100
    .next ((s.send point .identify).heard point)
  | _, _ => .next s

/-! ## The lapse of a hold (R76 to R78) -/

/-- R76: a SETTLED record lapses. -/
def State.lapsed (s : State) (i : Slot) : State := (s.unsettle i).latch .reservationLapsed none

/-- The time count moved on to a record's lapse at, where it is still ahead (log 13). -/
def State.reachMoment (s : State) (moment : Time) : State := if reached s.time moment then s else s.setTime moment

/-- LAPSE: the time count reaches the lapse at of a SETTLED record. During start-up the lapse waits for its end (R78).
-/
def execLapse (tag : BitVec 16) (s : State) : Answer :=
  let s := s.begun
  match s.lookup tag.toNat with
  | none => .next s
  | some (i, r) =>
    match r.state, r.lapseAt with
    | .settled, some moment =>
      let s := s.reachMoment moment
      if s.startUp.ended = false then .next s else (s.lapsed i).answer
    | _, _ => .next s

/-! ## The cashbox presence sensor (R162, R163) -/

/-- R161, R162: the box drawn. The loose figures start afresh, and count memory is written where they change. -/
def State.boxDrawn (s : State) : State :=
  let drawn := s.setCashbox { s.cashbox with presence := .out, looseCount := 0, looseValue := 0 }
  (if s.cashbox.looseCount = 0 ∧ s.cashbox.looseValue = 0 then drawn else drawn.writeCounts).boxRefresh none

/-- R162: a fresh box in place. -/
def State.boxInserted (s : State) : State :=
  (((s.setCashbox { s.cashbox with presence := .inPlace, count := 0, value := 0 }).boxRefresh none)).writeCounts

/-- The presence sensor at a new level for 200 ms (R162). -/
def execCashboxPresence (level : Presence) (s : State) : Answer :=
  let s := s.begun
  if s.cashbox.presence = level then .next s
  else
    match level with
    | .out => s.boxDrawn.answerOnce s
    | .inPlace => s.boxInserted.answerOnce s

end Sys2Proof.Machine
end

