-- ==== Sys2Proof/Machine/Reconcile.lean ====
section
/-! DEFINITION. What the reconciler does with STATUS, TALLY and BAND replies (09 R174 to R179, 01 R12), with the
exchanges of the refill commands (08 R152 to R156) and with the reads of start-up reconciliation (11 R208, R209). -/

namespace Sys2Proof.Machine

/-! ## STATUS (R177, R12) -/

/-- R177: a jam flag: JAM presented, and JAMMED from ACTIVE or EMPTY. -/
def State.jamFlag (s : State) (i : Station) (jam : Bool) (source : FaultSource) (except : Option PortId) : State :=
  if jam then
    (s.faultStore i (plainFault .jam (some (s.store i).count) source none) except).updStore i Store.jammedBy
  else s

/-- R177: a door flag: DOOR presented with the operation, and the state change of R11. -/
def State.doorFlag (s : State) (i : Station) (door : Bool) (op : Nat) (source : FaultSource)
    (except : Option PortId) : State :=
  if door then
    (s.faultStore i (plainFault .door (some (s.store i).count) source (some op)) except).updStore i Store.offlined
  else s

/-- R177: the held flag: HELD follows it, and while count is 0 a set flag presents COUNT-HIGH. -/
def State.heldFlag (s : State) (i : Station) (held : Bool) : State :=
  let s := s.updStore i (fun r => { r with held := held })
  if held ∧ (s.store i).count = 0 then
    s.faultStore i (figureFault .countHigh (some 0) 0 1 .reconciler (some heldExtra)) none
  else s

/-- R143, R177: gate position UNSET sets the settings-due mark. -/
def State.gateFlag (s : State) (i : Station) (gate : Gate) : State :=
  if gate = .unset then s.settingsDue i true else s

/-- R177: a STATUS reply of attention service, start-up or ENABLE, its flags judged in the order of the table. -/
def State.statusReply (s : State) (i : Station) (jam door held : Bool) (gate : Gate) : State :=
  (((s.jamFlag i jam .reconciler none).doorFlag i door 1 .reconciler none).heldFlag i held).gateFlag i gate

/-- R178, R208: the head of the work list remembers that its STATUS found gate position UNSET. -/
def State.rememberGate (s : State) (gate : Gate) : State :=
  match s.reconciler.work with
  | [] => s
  | w :: ws => s.setWork ({ w with sawUnset := w.sawUnset || decide (gate = .unset) } :: ws)

/-- R12, R13, R143: a JAMMED or OFFLINE store that CLEAR-FAULT's STATUS finds clean: ACTIVE or EMPTY by count with
UNVERIFIED set, its settings due and its band to be read, the settings placed first (DESIGN CHOICE, log 49). -/
def State.recovered (s : State) (i : Station) : State :=
  if (s.store i).state = .jammed ∨ (s.store i).state = .offline then
    ((s.updStore i (fun r => { r.returned with unverified := true })).settingsDue i false).placeVerify i
  else s

/-- R12: an OFFLINE store whose CLEAR-FAULT reads jam set and door clear goes to JAMMED; R10 gives ACTIVE and EMPTY. -/
def Store.clearJammed (r : Store) : Store :=
  if r.state = .offline then { r with state := .jammed } else r.jammedBy

/-- R12, R171: the STATUS reply of CLEAR-FAULT: HELD follows it, its faults are the command's, and the reply is DONE for
a clean module and STATE otherwise. With both flags set JAM is presented before DOOR, though R169 lets either come first
and R177's order names other reads (DESIGN CHOICE, log 72). No COUNT-HIGH is presented for the held flag (DEDUCED,
log 34). -/
def State.clearFaultStatus (s : State) (i : Station) (quiet jam door held : Bool) (gate : Gate) : State :=
  let except := quietExcept quiet
  let s := s.updStore i (fun r => { r with held := held })
  let s :=
    if jam ∧ !door then
      (s.faultStore i (plainFault .jam (some (s.store i).count) .command none) except).updStore i Store.clearJammed
    else (s.jamFlag i jam .command except).doorFlag i door 1 .command except
  let s := s.gateFlag i gate
  if jam || door then s.deferredReply .clearFault .state []
  else (s.recovered i).deferredReply .clearFault .done []

/-! ## TALLY (R178, R179) -/

/-- R179: exits with no eject outstanding counted out, with STRAY-EXIT and any eviction. -/
def State.strayExits (s : State) (i : Station) (value : Byte) (d : Nat) (gate : Gate) : State :=
  let before := s.store i
  let s := (s.updStore i (fun r => { r with moduleTally := value })).countOut i d none
  (s.faultStore i
    (figureFault .strayExit (some before.count) before.moduleTally.toNat value.toNat .reconciler (some (gateCode gate)))
    none).evict i

/-- R178: the module has restarted: the tally last seen takes its value, and UNVERIFIED is set. -/
def State.moduleRestarted (s : State) (i : Station) (value : Byte) : State :=
  ((s.updStore i (fun r => { r with moduleTally := value })).unverify i).writeCounts

/-- R178: the difference between the module's tally and the tally last seen, modulo 256. -/
def Store.tallyDifference (r : Store) (value : Byte) : Nat := (value - r.moduleTally).toNat

/-- R178: a TALLY reply judged; none is judged while an eject from the store is outstanding, which an eject record kept
in SETUP-FAULT says too (DEDUCED, log 41). -/
def State.tallyReply (s : State) (i : Station) (sawUnset : Bool) (value : Byte) (gate : Gate) : State :=
  let d := (s.store i).tallyDifference value
  if (s.store i).ejectRecord.isSome then s
  else if sawUnset || decide (128 ≤ d) then s.moduleRestarted i value
  else if d = 0 then s
  else s.strayExits i value d gate

/-! ## BAND (R174 to R176) -/

/-- R175: a count above the band lowered to its upper bound, with COUNT-LOW and any eviction. -/
def State.clampCount (s : State) (i : Station) (b : Band) : State :=
  let before := s.store i
  let upper := bandUpper before.cfg b
  ((s.countOut i (before.count - upper) none).faultStore i
    (figureFault .countLow (some before.count) before.count upper .reconciler (some (bandCode b))) none).evict i

/-- R175: a count below the band kept, with COUNT-HIGH. -/
def State.keepCount (s : State) (i : Station) (b : Band) : State :=
  let r := s.store i
  s.faultStore i
    (figureFault .countHigh (some r.count) r.count (bandLower r.cfg b) .reconciler (some (bandCode b))) none

/-- R174 step 3: the count compared with the band's range, and UNVERIFIED cleared. -/
def State.compareBand (s : State) (i : Station) (b : Band) : State :=
  let r := s.store i
  let s :=
    if bandUpper r.cfg b < r.count then s.clampCount i b
    else if r.count < bandLower r.cfg b then s.keepCount i b
    else s
  s.updStore i (fun r => { r with unverified := false })

/-- R176: the read after a final NONE decides the store's state: a band that is not EMPTY presents JAM and takes the store
to JAMMED by R10, and one that left ACTIVE and EMPTY while the BAND was on the bus keeps its state (R8). -/
def State.jamAfterNone (s : State) (w : Work) (b : Band) : State :=
  let i := w.station
  if w.afterNone && b != .empty then
    (s.faultStore i (plainFault .jam (some (s.store i).count) .reconciler (some (bandCode b))) none).updStore i
      Store.jammedBy
  else s

/-- R174 step 2: a read made again: what it serves, with a TALLY first for an engine. -/
def Work.again (w : Work) : Work :=
  { newWork w.station .read (if w.forEngine then [.tally, .band] else [.band]) with
    verifies := w.verifies || w.cause == .startBand
    attention := w.attention || w.cause == .service
    asked := w.asked
    afterNone := w.afterNone }

/-- R173, R174 step 2: the read placed again, to be made later; a read of the station that waits serves both. -/
def State.deferBand (s : State) (w : Work) : State :=
  (s.joinRead w.again).getD (s.setReconciler { s.reconciler with deferred := s.reconciler.deferred ++ [w.again] })

/-- R119, R176: a read that has ended, given to the engine that awaits it. -/
def State.tellEngine (s : State) (i : Station) (e : EngineId) : State :=
  if (s.engine e).bandAwaited = some i then s.afterRead e else s

/-- The end of a band read for the engines: only a read made for a final NONE has one that awaits it. -/
def State.tellEngines (s : State) (w : Work) : State :=
  if w.afterNone then ((s.tellEngine w.station .p1).tellEngine w.station .p2).tellEngine w.station .m else s

/-- R174 to R176: a BAND reply with DONE for the head of the work list. What counts as an eject outstanding is
State.ripe's (log 78). -/
def State.bandReply (s : State) (w : Work) (b : Band) : State :=
  let i := w.station
  let s := s.updStore i (fun r => { r with bandLast := some (b, s.time) })
  if (s.store i).state = .refill then (s.jamAfterNone w b).nextOp.tellEngines w
  else if s.ripe i = false then s.nextOp.deferBand w
  else ((s.compareBand i b).jamAfterNone w b).nextOp.tellEngines w

/-- R139, R174: a BAND reply without DONE: the DOOR cause, and a failed read. -/
def State.bandFailed (s : State) (w : Work) : State :=
  ((s.doorFlag w.station true 2 .reconciler none).failHead).tellEngines w

/-! ## Settings (R143) -/

/-- R143: WINDOW ended with a reply: the second exchange stands, unless the station has been set absent meanwhile. -/
def State.windowSent (s : State) (i : Station) : State := if s.settable i then s.nextOp else s.dropHead

/-- R143: the mark cleared once both exchanges have ended with a reply and no newer settings are due. -/
def State.settingsSent (s : State) (w : Work) : State :=
  let s := s.nextOp
  if w.stale || s.reconciler.work.any (fun x => x.isSettings w.station) then s
  else s.updStore w.station (fun r => { r with settingsDue := false, settingsUnset := false })

/-! ## The exchanges of the refill commands (R152 to R156) -/

/-- R152: the end of a REFILL-BEGIN's FILL-OPEN. An offline cause that ended the refill before leaves STATE as the reply
(R153). Without DONE the STATUS read is placed before the band read of an UNVERIFIED store (DESIGN CHOICE, log 69). -/
def State.fillOpened (s : State) (i : Station) (done : Bool) : State :=
  if (s.store i).state ≠ .refill then s.deferredReply .refillBegin .state []
  else if done then s.deferredReply .refillBegin .done (bytesOf 2 (s.store i).count)
  else
    let s := (s.updStore i Store.returned).place (newWork i .statusRead [.status])
    (if (s.store i).unverified then s.placeVerify i else s).deferredReply .refillBegin .state []

/-- R154, R156: the store back in service with UNVERIFIED set, and its band to be read. -/
def State.refilled (s : State) (i : Station) : State :=
  (s.updStore i (fun r => { r.returned with unverified := true })).placeVerify i

/-- R154, R155: a refill ended with the fill tally f. -/
def State.fillCounted (s : State) (i : Station) (quiet : Bool) (f : Nat) : State :=
  let r := s.store i
  let except := quietExcept quiet
  let count := min (r.count + f) r.cfg.capacity
  let excess := r.count + f - r.cfg.capacity
  let s := (s.updStore i (fun r => { r with inTally := r.inTally + BitVec.ofNat 32 f })).setCount i count except
  let s :=
    if excess = 0 then s
    else s.faultStore i (figureFault .fillOverrun (some r.count) f excess .command none) except
  (s.refilled i).deferredReply .refillEnd .done (bytesOf 2 f ++ bytesOf 2 count ++ bytesOf 2 excess)

/-- R154, R153: the end of a REFILL-END's FILL-CLOSE. -/
def State.refillEnded (s : State) (i : Station) (quiet : Bool) (f : Nat) : State :=
  if (s.store i).state ≠ .refill then s.deferredReply .refillEnd .state [] else s.fillCounted i quiet f

/-- R156, R153: the end of a REFILL-CANCEL's FILL-CLOSE: the tally discarded. -/
def State.refillCancelled (s : State) (i : Station) (f : Nat) : State :=
  if (s.store i).state ≠ .refill then s.deferredReply .refillCancel .state []
  else (s.refilled i).deferredReply .refillCancel .done (bytesOf 2 f)

/-! ## Start-up reconciliation (R208, R209) -/

/-- R209: the value of d exits into a cup: added to the paid of the INTERRUPTED record bound to the engine's point. -/
def State.chargeRecord (s : State) (p : PointId) (value : Nat) : State :=
  match (s.point p).binding with
  | .record tag =>
    match s.lookup tag with
    | some (j, r) =>
      if r.state = .interrupted then s.updRec j (fun x => { x with paid := saturate (x.paid + value) }) else s
    | none => s
  | _ => s

/-- R209: d exits charged by the eject record's destination. -/
def State.chargeExits (s : State) (rec : EjectRecord) (denomination d : Nat) : State :=
  match rec.dest, enginePoint rec.engine with
  | .cashbox, _ => s.countBoxTimes denomination d
  | _, some p => s.chargeRecord p (d * denomination)
  | _, none => s

/-- R208 step 3: the eject record cleared, and the exits judged. -/
def State.reconcileTally (s : State) (i : Station) (sawUnset : Bool) (value : Byte) : State :=
  let r := s.store i
  let d := r.tallyDifference value
  let s := s.updStore i (fun r => { r with ejectRecord := none })
  if sawUnset || decide (128 ≤ d) then s.moduleRestarted i value
  else if d = 0 then s.writeCounts
  else
    let s := ((s.updStore i (fun r => { r with moduleTally := value })).countOut i d none).evict i
    match r.ejectRecord with
    | some rec => s.chargeExits rec r.cfg.denomination d
    | none => s

/-- R208: the limit of asking for a result in start-up has passed: the eject window plus 200 ms since the first
RESULT. -/
def State.askedLongEnough (s : State) (w : Work) : Bool :=
  match w.since with
  | some t => decide ((s.store w.station).cfg.window + 20 ≤ age s.time t)
  | none => false

/-- A PENDING reply: the head of the work list waits its 5 ms (R208). -/
def State.pauseHead (s : State) : State :=
  match s.reconciler.work with
  | [] => s
  | w :: ws => s.setWork ({ w with paused := true } :: ws)

/-- R208, R209: the reply to one read of the head's reconciliation. A final RESULT's held flag is not used: HELD follows
the STATUS of step 2 (DESIGN CHOICE, log 67). -/
def State.reconcileReply (s : State) (w : Work) : ReconRead → State
  | .result (some _) => s.nextOp
  | .result none => if s.askedLongEnough w then s.nextOp else s.pauseHead
  | .status jam door held gate => ((s.statusReply w.station jam door held gate).rememberGate gate).nextOp
  | .tally value _ => (s.reconcileTally w.station w.sawUnset value).nextOp

end Sys2Proof.Machine
end

