-- ==== Sys2Proof/Machine/BusEvents.lean ====
section
/-! DEFINITION. The tube bus: the grant of the bus, and the ends of exchanges (07 R135 to R150, with 05 R95, 06 R113 to
R121, 08 R152 to R156, 09 R173 to R179 and 11 R208). -/

namespace Sys2Proof.Machine

/-! ## The grant of the bus (R144, R145) -/

/-- R113, R132: whether an engine's EJECT may go out now. -/
def State.ejectAllowed (s : State) (e : EngineId) : Bool :=
  (s.store (s.workStation e)).working
    && (e != .m || (!s.boxStops && !((s.engine .m).run.map s.goalMet).getD true))

/-- R114, R204: the eject recorded in count memory, and then its EJECT sent. -/
def State.sendEject (s : State) (e : EngineId) : State :=
  let i := s.workStation e
  (((s.updStore i (fun r => { r with ejectRecord := some ⟨e, engineDest e⟩ })).writeCounts).sendRequest (.engine e) i
    .eject)

/-- R113 to R115: a granted engine sends its request; an EJECT that may no longer go out gives up the bus. -/
def State.grantEngine (s : State) (e : EngineId) : State :=
  match (s.engine e).needs with
  | some .divert => s.sendRequest (.engine e) (s.workStation e) (.divert (engineDest e))
  | some .eject => if s.ejectAllowed e then s.sendEject e else s.passBus.tryEject e
  | some .result =>
    match (s.engine e).outstanding with
    | some o => s.sendRequest (.engine e) o.station .result
    | none => s.passBus
  | none => s.passBus

/-- R94, R96: a granted intake unit decides its route: a DIVERT fill to a store, or the cashbox with no request. -/
def State.grantIntake (s : State) (p : PointId) : State :=
  match (s.point p).outgoing with
  | none => s.passBus
  | some c =>
    match s.chooseStore c.denomination with
    | some i => s.sendRequest (.intake p) i (.divert (fillDest p))
    | none => (s.passBus.routeToBox p c).routeNext p

/-- The request of the reconciler's next exchange (R143, R144, R149, R207). -/
def State.recRequest (s : State) (i : Station) : RecOp → TubeOp
  | .result => .result
  | .status => .status
  | .tally => .tally
  | .band => .band
  | .clearAttn => .clearAttn
  | .window => .window (s.store i).cfg.window
  | .stage => if (s.store i).cfg.staging then .stageOn else .stageOff
  | .fillOpen => .fillOpen
  | .fillClose => .fillClose

/-- R208: the time of a reconciliation's first RESULT. -/
def Work.asking (now : Time) (op : RecOp) (w : Work) : Work :=
  if op = .result ∧ w.since = none then { w with since := some now } else w

/-- R144: the reconciler's place sends the next exchange of its list. -/
def State.grantReconciler (s : State) : State :=
  match s.reconciler.work with
  | [] => s.passBus
  | w :: ws =>
    match w.ops with
    | [] => s.passBus
    | op :: _ =>
      if w.paused then s.passBus
      else (s.setWork (w.asking s.time op :: ws)).sendRequest .reconciler w.station (s.recRequest w.station op)

/-- BUS_GRANT: the holder's request goes out (R135, R145, R148). During the module settle wait nothing is sent (R150).
-/
def execBusGrant (s : State) : Answer :=
  let s := s.begun
  if s.bus.unsent = false ∨ s.startUp.settling then .next s
  else
    match s.bus.holder with
    | none => .next s
    | some (.engine e) => (s.grantEngine e).answerOnce s
    | some (.intake p) => (s.grantIntake p).answerOnce s
    | some .reconciler => s.grantReconciler.answerAll
    | some .poller => (s.setBus { s.bus with polling := true }).answerAll

/-! ## Exchanges that fail (R136, R137) -/

/-- REPLY_WAIT: no reply to the first copy: the request is sent once more (R136). -/
def execReplyWait (s : State) : Answer :=
  let s := s.begun
  match s.bus.exchange with
  | some x => if x.repeated then .next s else .next (s.setBus { s.bus with exchange := some { x with repeated := true } })
  | none => .next s

/-- R168: the source of a fault in the reconciler's place: command for a Port M command's exchange. -/
def WorkCause.source : WorkCause → FaultSource
  | .clearFault _ | .refillBegin _ | .refillEnd _ | .refillCancel _ => .command
  | _ => .reconciler

/-- R193: what keeps the direct results of a command's exchange out of Port M. -/
def WorkCause.except : WorkCause → Option PortId
  | .clearFault q | .refillBegin q | .refillEnd q | .refillCancel q => quietExcept q
  | _ => none

/-- The head of the work list, whose exchange is on the bus. -/
def State.headWork (s : State) : Option Work := s.reconciler.work.head?

/-- R136, R168: the store goes OFFLINE by R11, and the fault is presented with the operation. -/
def State.offlineFault (s : State) (x : Exchange) (code : FaultCode) : State :=
  let at_ := some (s.store x.station).count
  let op := some x.op.code
  let s :=
    match x.requester with
    | .engine e => s.faultStore x.station (plainFault code at_ (.engine e) op) none
    | .intake p => s.faultStore x.station (plainFault code at_ (.intake p) op) none
    | .poller => s.faultStore x.station (plainFault code at_ .reconciler op) none
    | .reconciler =>
      let cause := (s.headWork.map Work.cause).getD .read
      s.faultStore x.station (plainFault code at_ cause.source op) cause.except
  s.updStore x.station Store.offlined

/-- R113 to R115: an engine's exchange failed. A DIVERT has no eject to clear. -/
def State.engineExchangeFailed (s : State) (e : EngineId) (x : Exchange) : State :=
  if x.abandoned then s
  else
    match x.op with
    | .eject | .result => (s.engineFailed e x.station).ripen x.station
    | _ => (s.updEngine e (fun y => { y with needs := none })).notGrantableHeld e

/-- R95: a route exchange failed: the item goes to the cashbox. -/
def State.intakeExchangeFailed (s : State) (p : PointId) (x : Exchange) : State :=
  if x.abandoned then s
  else
    match (s.point p).outgoing with
    | some c => (s.routeToBox p c).routeNext p
    | none => s

/-- R208: a reconciliation that failed: its record is cleared. -/
def State.abandonReconciliation (s : State) (i : Station) : State :=
  (s.updStore i (fun r => { r with ejectRecord := none })).writeCounts

/-- R12, R149, R152, R154, R156, R207, R208: an exchange in the reconciler's place failed. Settings whose mark stays set
are placed anew (R143; DEDUCED, log 37). -/
def State.workFailed (s : State) : State :=
  match s.headWork with
  | none => s
  | some w =>
    let s :=
      match w.cause with
      | .clearFault _ => s.deferredReply .clearFault .state []
      | .refillBegin _ => s.deferredReply .refillBegin .state []
      | .refillEnd _ => s.deferredReply .refillEnd .state []
      | .refillCancel _ => s.deferredReply .refillCancel .state []
      | .startEject => s.abandonReconciliation w.station
      | _ => s
    let s := s.failHead.tellEngines w
    if w.cause = .settings then s.placeSettings w.station else s

/-- R136: an exchange ended by NO-REPLY or BAD-OP: the store, the bus, and then its requester. -/
def State.exchangeFailed (s : State) (x : Exchange) (code : FaultCode) : State :=
  let s := (s.offlineFault x code).passBus
  match x.requester with
  | .engine e => s.engineExchangeFailed e x
  | .intake p => s.intakeExchangeFailed p x
  | .reconciler => s.workFailed
  | .poller => s

/-- NO_REPLY: no reply to the repeat (R136). -/
def execNoReply (s : State) : Answer :=
  let s := s.begun
  match s.bus.exchange with
  | some x => if x.repeated then (s.exchangeFailed x .noReply).answerOnce s else .next s
  | none => .next s

/-- BAD_OP: a reply without TAKEN (R136, R137). -/
def execBadOp (station : BitVec 4) (s : State) : Answer :=
  let s := s.begun
  match s.exchangeAt station with
  | some x => (s.exchangeFailed x .badOp).answerOnce s
  | none => .next s

/-! ## Exchanges of engines (R113 to R121) -/

/-- DIVERT to an exit destination, ended with TAKEN (R113, R119, R140). -/
def execDivert (station : BitVec 4) (done : Bool) (s : State) : Answer :=
  let s := s.begun
  match s.exchangeAt station with
  | some ⟨.engine e, _, .divert _, _, _, abandoned⟩ =>
    let s := s.passBus
    if abandoned then s.answerAll
    else
      let s := s.updEngine e (fun x => { x with needs := none })
      (if done then s.tryEject e else s.finalNone e).answerOnce s
  | _ => .next s

/-- R114: an accepted EJECT: the eject is outstanding, and its result asked for. -/
def State.ejectTaken (s : State) (e : EngineId) (i : Station) : State :=
  (s.updEngine e (fun x =>
    { x with outstanding := some ⟨i, engineDest e, s.time, x.repeats⟩, needs := some .result })).requestBus (.engine e)

/-- EJECT ended with TAKEN (R114, R119, R141). -/
def execEject (station : BitVec 4) (done : Bool) (s : State) : Answer :=
  let s := s.begun
  match s.exchangeAt station with
  | some ⟨.engine e, i, .eject, _, _, _⟩ =>
    let s := s.passBus
    if done then (s.ejectTaken e i).answerAll else (((s.clearEject e i).finalNone e).ripen i).answerOnce s
  | _ => .next s

/-- R115: whether a result deadline has passed: the eject window plus 200 ms since the EJECT reply. -/
def State.deadlinePassed (s : State) (o : Outstanding) : Bool :=
  decide ((s.store o.station).cfg.window + 20 ≤ age s.time o.repliedAt)

/-- R115: a PENDING reply: the engine asks again after 5 ms, or takes a final NONE once its deadline has passed. -/
def State.resultPending (s : State) (e : EngineId) : State :=
  match (s.engine e).outstanding with
  | none => s
  | some o =>
    if s.deadlinePassed o then (s.deadlineNone e o.station).ripen o.station
    else s.updEngine e (fun x => { x with needs := none })

/-- R115 to R121, R128: a final result. HELD follows the held flag. -/
def State.resultFinal (s : State) (e : EngineId) (i : Station) (outcome : EjectOutcome) (held : Bool) : State :=
  match outcome with
  | .item => (s.resultItems e i 1 held).ripen i
  | .double => (s.resultItems e i 2 held).ripen i
  | .none => (((s.clearEject e i).updStore i (fun r => { r with held := held })).resultNone e).ripen i

/-- RESULT of an engine's eject ended with TAKEN: final with its outcome and held flag, or PENDING (R115). -/
def execResult (station : BitVec 4) (final : Option (EjectOutcome × Bool)) (s : State) : Answer :=
  let s := s.begun
  match s.exchangeAt station with
  | some ⟨.engine e, i, .result, _, _, _⟩ =>
    let s := s.passBus
    match final with
    | none => (s.resultPending e).answerOnce s
    | some (outcome, held) => (s.resultFinal e i outcome held).answerOnce s
  | _ => .next s

/-- RESULT_REASK: 5 ms after a PENDING reply (R115, R208). -/
def execResultReask (asker : Asker) (s : State) : Answer :=
  let s := s.begun
  match asker with
  | .engine e =>
    let x := s.engine e
    if x.outstanding.isSome ∧ x.needs = none then
      ((s.updEngine e (fun x => { x with needs := some .result })).requestBus (.engine e)).answerAll
    else .next s
  | .startUp =>
    match s.reconciler.work with
    | w :: ws => if w.paused then (s.setWork ({ w with paused := false } :: ws)).answerAll else .next s
    | [] => .next s

/-- R115: the result deadline of an engine's eject passes while no RESULT of it is on the bus. -/
def State.resultDeadline (s : State) (e : EngineId) (o : Outstanding) : State :=
  let s := s.reach o.repliedAt ((s.store o.station).cfg.window + 20)
  if s.onBus e .result then s
  else ((s.withdraw (.engine e)).deadlineNone e o.station).ripen o.station

/-- R208: the limit of asking passes in start-up while no RESULT is on the bus. -/
def State.askingDeadline (s : State) (w : Work) (t : Time) : State :=
  let s := s.reach t ((s.store w.station).cfg.window + 20)
  if s.headInFlight then s else s.nextOp

/-- RESULT_DEADLINE (R115, R119, R208). -/
def execResultDeadline (asker : Asker) (s : State) : Answer :=
  let s := s.begun
  match asker with
  | .engine e =>
    match (s.engine e).outstanding with
    | some o => (s.resultDeadline e o).answerOnce s
    | none => .next s
  | .startUp =>
    match s.headWork with
    | some w =>
      match w.cause, w.ops.head?, w.since with
      | .startEject, some .result, some t => (s.askingDeadline w t).answerAll
      | _, _, _ => .next s
    | none => .next s

/-! ## Exchanges of intake units (R95) -/

/-- R95: a DIVERT fill ended with TAKEN: the item goes to the store, or to the cashbox without DONE. -/
def State.divertFilled (s : State) (p : PointId) (i : Station) (done : Bool) : State :=
  match (s.point p).outgoing with
  | none => s
  | some c => (if done then s.routeToStore p c i else s.routeToBox p c).routeNext p

/-- DIVERT to a fill destination, ended with TAKEN (R95, R140). A route given up is carried to its end without effect
(R180). -/
def execDivertFill (station : BitVec 4) (done : Bool) (s : State) : Answer :=
  let s := s.begun
  match s.exchangeAt station with
  | some ⟨.intake p, i, .divert _, _, _, abandoned⟩ =>
    if abandoned then s.passBus.answerAll else (s.passBus.divertFilled p i done).answerOnce s
  | _ => .next s

/-! ## Exchanges in the reconciler's place -/

/-- The head of the work list when the exchange in progress is its own at the named station with the operation given. -/
def State.workEnding (s : State) (station : BitVec 4) (test : TubeOp → Bool) : Option Work :=
  match s.exchangeAt station with
  | some x => if x.requester = .reconciler ∧ test x.op then s.headWork else none
  | none => none

/-- STATUS ended with TAKEN (R12, R139, R177). -/
def execStatus (station : BitVec 4) (jam door held : Bool) (gate : Gate) (s : State) : Answer :=
  let s := s.begun
  match s.workEnding station (fun op => op == .status) with
  | none => .next s
  | some w =>
    match w.cause with
    | .startEject => .next s
    | .clearFault quiet => ((s.passBus.clearFaultStatus w.station quiet jam door held gate).nextOp).answerOnce s
    | _ => (((s.passBus.statusReply w.station jam door held gate).rememberGate gate).nextOp).answerOnce s

/-- TALLY ended with TAKEN and DONE (R139, R178, R179). -/
def execTally (station : BitVec 4) (value : Byte) (gate : Gate) (s : State) : Answer :=
  let s := s.begun
  match s.workEnding station (fun op => op == .tally) with
  | none => .next s
  | some w =>
    if w.cause = .startEject then .next s
    else ((s.passBus.tallyReply w.station w.sawUnset value gate).nextOp).answerOnce s

/-- BAND ended with TAKEN: the level band, or none without DONE (R139, R174 to R176). -/
def execBand (station : BitVec 4) (level : Option Band) (s : State) : Answer :=
  let s := s.begun
  match s.workEnding station (fun op => op == .band) with
  | none => .next s
  | some w =>
    match level with
    | some b => (s.passBus.bandReply w b).answerOnce s
    | none => (s.passBus.bandFailed w).answerOnce s

/-- DEFERRED_BAND_READ: 500 ms since the last routed item, with no eject outstanding (R174); a record that SETUP-FAULT
keeps holds the read back (DESIGN CHOICE, log 78). -/
def execDeferredBandRead (station : Station) (s : State) : Answer :=
  let s := s.begun
  if !(s.reconciler.deferred.any (fun w => w.station == station)) || (s.store station).ejectRecord.isSome then .next s
  else
    let s :=
      match (s.store station).lastRouted with
      | some t => s.reach t 50
      | none => s
    (s.ripen station).answerAll

/-- CLEAR_ATTN ended with TAKEN (R147, R148, R149). -/
def execClearAttn (station : BitVec 4) (s : State) : Answer :=
  let s := s.begun
  match s.workEnding station (fun op => op == .clearAttn) with
  | none => .next s
  | some _ => s.passBus.nextOp.answerAll

/-- Whether an operation is WINDOW. -/
def TubeOp.isWindow : TubeOp → Bool
  | .window _ => true
  | _ => false

/-- WINDOW ended with TAKEN (R143). -/
def execWindow (station : BitVec 4) (s : State) : Answer :=
  let s := s.begun
  match s.workEnding station TubeOp.isWindow with
  | none => .next s
  | some w => (s.passBus.windowSent w.station).answerAll

/-- STAGE-ON ended with TAKEN (R143). -/
def execStageOn (station : BitVec 4) (s : State) : Answer :=
  let s := s.begun
  match s.workEnding station (fun op => op == .stageOn) with
  | none => .next s
  | some w => (s.passBus.settingsSent w).answerAll

/-- STAGE-OFF ended with TAKEN (R143). -/
def execStageOff (station : BitVec 4) (s : State) : Answer :=
  let s := s.begun
  match s.workEnding station (fun op => op == .stageOff) with
  | none => .next s
  | some w => (s.passBus.settingsSent w).answerAll

/-- FILL-OPEN ended with TAKEN (R142, R152). -/
def execFillOpen (station : BitVec 4) (done : Bool) (s : State) : Answer :=
  let s := s.begun
  match s.workEnding station (fun op => op == .fillOpen) with
  | none => .next s
  | some w => ((s.passBus.fillOpened w.station done).nextOp).answerAll

/-- FILL-CLOSE ended with TAKEN and its tally (R142, R154 to R157). -/
def execFillClose (station : BitVec 4) (tally : BitVec 16) (s : State) : Answer :=
  let s := s.begun
  match s.workEnding station (fun op => op == .fillClose) with
  | none => .next s
  | some w =>
    let s := s.passBus
    match w.cause with
    | .refillEnd quiet => ((s.refillEnded w.station quiet tally.toNat).nextOp).answerAll
    | .refillCancel _ => ((s.refillCancelled w.station tally.toNat).nextOp).answerAll
    | _ => s.nextOp.answerAll

/-- The operation whose reply a read of start-up reconciliation is. -/
def reconOp : ReconRead → TubeOp
  | .result _ => .result
  | .status _ _ _ _ => .status
  | .tally _ _ => .tally

/-- EJECT_RECONCILIATION: one read of a station's reconciliation ended with TAKEN (R208, R209). -/
def execEjectReconciliation (station : BitVec 4) (read : ReconRead) (s : State) : Answer :=
  let s := s.begun
  match s.workEnding station (fun op => op == reconOp read) with
  | none => .next s
  | some w => if w.cause ≠ .startEject then .next s else (s.passBus.reconcileReply w read).answerAll

/-! ## Attention (R147 to R149) -/

/-- ATTENTION_POLL: the wire is active in QUIET, and 20 ms have passed since the last SERVICE ended (R148). -/
def execAttentionPoll (s : State) : Answer :=
  let s := s.begun
  if s.startUp.ended = false ∨ s.bus.poller ≠ .quiet then .next s
  else
    let s :=
      match s.bus.serviceEnd with
      | some t => s.reach t 2
      | none => s
    ((s.setBus { s.bus with poller := .polling }).requestBus .poller).answerAll

/-- R148: the stations whose slot carried a good mark. -/
def attentionSet (slots : List (Option Byte)) : BitVec 12 :=
  (allStations.filter (fun i => slots[i.val]? == some (some attentionMark))).foldl (fun m i => m ||| stationBit i) 0#12

/-- R149: the four exchanges of a station's attention service. -/
def serviceWork (i : Station) : Work := newWork i .service [.status, .tally, .band, .clearAttn]

/-- R148, R149: the poll's map reduced by the attention mask, and its stations placed in ascending order. A service is
placed whole though a band read of its station waits already: both reads are made, not joined (DESIGN CHOICE, log 77). -/
def State.serviceMap (s : State) (map : BitVec 12) : State :=
  let reduced := map &&& s.system.attention
  if reduced = 0#12 then
    s.setBus { s.bus with poller := .quiet, pollMap := 0#12, serviceLeft := 0#12, serviceEnd := some s.time }
  else
    (s.setWork (s.reconciler.work ++ (stationsOf reduced).map serviceWork)).setBus
      { s.bus with poller := .service, pollMap := map, serviceLeft := reduced }

/-- ATTENTION_MAP: the twelve slots of the poll (R148, R149). -/
def execAttentionMap (slots : List (Option Byte)) (s : State) : Answer :=
  let s := s.begun
  if s.bus.polling = false then .next s else (s.passBus.serviceMap (attentionSet slots)).answerAll

end Sys2Proof.Machine
end

