-- ==== Sys2Proof/Machine/Reset.lean ====
section
/-! DEFINITION. The four resets and start-up (11 R203 to R207, 01 R23, 02 R49, R50, 05 R108, 06 R134, 07 R146, R150,
08 R166, 09 R167, R182, 10 R198). -/

namespace Sys2Proof.Machine

/-! ## The set-up block at a reset (R203) -/

/-- The set-up block as a reset finds it. -/
def SetupBlock.found (bad : Bool) (b : SetupBlock) : SetupBlock := if bad then b.spoilt else b

/-- R203: the working copy a reset loads: the block's contents, or the factory defaults when its check fails. -/
def SetupBlock.loaded (b : SetupBlock) : SetupData := if b.good then b.data else SetupData.factory

/-- A station's entry of a set-up block. -/
def SetupData.station (d : SetupData) (i : Station) : StoreCfg := d.stations[i.val]'i.isLt

/-! ## Count memory at POWER and BROWNOUT (R204) -/

/-- R204: whether copy A is the newer by its write number. -/
def CountMemory.aNewer (m : CountMemory) : Bool :=
  decide ((m.copyA.data.number - m.copyB.data.number).toNat < 2 ^ 31)

/-- Count memory as a loss of supply leaves it. -/
def CountMemory.found (m : CountMemory) (d : Damage) : CountMemory :=
  { m with
    copyA := if d.copyA then m.copyA.spoilt else m.copyA
    copyB := if d.copyB then m.copyB.spoilt else m.copyB }

/-- R204: whether copy A is the copy read: the newer of those whose check passes, and none when neither does. -/
def CountMemory.readsA (m : CountMemory) : Option Bool :=
  match m.copyA.good, m.copyB.good with
  | true, true => some m.aNewer
  | true, false => some true
  | false, true => some false
  | false, false => none

/-- R204: the figures a POWER or BROWNOUT reset takes. -/
def CountMemory.restored (m : CountMemory) : CountData :=
  match m.readsA with
  | some true => m.copyA.data
  | some false => m.copyB.data
  | none => ⟨0, Vector.replicate 12 StationCounts.blank, 0, 0⟩

/-! ## Stores at a reset (R23) -/

/-- R23: the store of a station after POWER or BROWNOUT. -/
def Store.powered (c : StoreCfg) (setupFault : Bool) (k : StationCounts) : Store :=
  Store.levelled
    { Store.reset with
      cfg := c.ordered k.count
      count := k.count
      inTally := k.inTally
      outTally := k.outTally
      state := if c.present && !setupFault then workingState k.count else .disabled
      moduleTally := k.moduleTally
      settingsDue := c.present && !setupFault
      ejectRecord := k.ejectRecord }

/-- R3, R23: the items that the reservation lists hold at a station. -/
def reservedBy (records : Vector (Option Rec) 24) (i : Station) : Nat :=
  (records.toList.map (fun x => (x.map (fun r => itemsAt r.list i)).getD 0)).sum

/-- R23, R182: the store of a station after PIN or LINK. -/
def Store.kept (c : StoreCfg) (setupFault : Bool) (reserved : Nat) (r : Store) : Store :=
  Store.levelled
    { r with
      cfg := c.ordered r.count
      reserved := reserved
      state := if c.present && !setupFault then r.state else .disabled
      unverified := r.unverified || r.ejectRecord.isSome
      holder := none
      waiting := []
      burst := 0
      lastRouted := none
      settingsDue := c.present && !setupFault
      settingsUnset := false }

/-! ## Records and points at PIN and LINK (R50, R108) -/

/-- R50: a PAYING record goes to INTERRUPTED with its list released; every other record is kept. -/
def Rec.interrupted (now : Time) (r : Rec) : Rec :=
  if r.state = .paying then
    { (if r.list = [] then r else r.relisted []).enter .interrupted now with pinned := false }
  else r

/-- R108: a point after PIN or LINK. -/
def Point.kept (x : Point) : Point :=
  { Point.reset with
    binding := x.binding
    recognised := x.recognised
    queue := x.queue
    releaseOwed := x.releaseOwed
    unclaimed := x.unclaimed }

/-! ## Start-up's exchanges (R207) -/

/-- R207: the start-up exchanges of a station, group by group. full says that the reset was POWER or BROWNOUT. -/
def State.startWork (s : State) (full : Bool) (i : Station) : List Work :=
  let r := s.store i
  (if r.ejectRecord.isSome then [newWork i .startEject [.result, .status, .tally]] else [])
    ++ (if full && s.fitted i then [newWork i .startFill [.fillClose]] else [])
    ++ (if r.ejectRecord.isNone && s.fitted i && (full || r.state = .refill) then [newWork i .startStatus [.status]]
        else [])
    ++ (if r.settingsDue then [newWork i .startSettings [.window, .stage]] else [])
    ++ (if r.working && r.unverified then [newWork i .startBand [.band]] else [])

/-- R207: the start-up exchanges placed, station by station; none in SETUP-FAULT. The reconciler then asks for the
bus. -/
def State.beginStartUp (s : State) (full : Bool) : State :=
  (if s.setupFault then s else s.setWork (allStations.flatMap (s.startWork full))).kick

/-! ## POWER and BROWNOUT (R205) -/

/-- Everything a POWER or BROWNOUT reset leaves, with the flags of the causes that arrived together. The queue and the
counter of free values are the model's own and stay. The copy read is the newer one from here on, whatever number a copy
that failed its check bears (DESIGN CHOICE, log 66). -/
def State.powered (s : State) (causes : Causes) (sensor : Presence) (damage : Damage) : State :=
  let block := s.setupBlock.found damage.setUp
  let setup := block.loaded
  let memory := s.countMemory.found damage
  let counts := memory.restored
  let system := setup.system.ordered
  let lastIsA := memory.readsA.getD memory.aNewer
  State.beginStartUp
    { State.reset with
      pending := s.pending
      free := s.free
      stores := Vector.ofFn (fun i => Store.powered (setup.station i) (!block.good) (counts.stations[i.val]'i.isLt))
      cashbox := ⟨counts.boxCount, counts.boxValue, 0, 0, sensor,
        boxState system.boxCapacity system.boxNearFull sensor counts.boxCount⟩
      pointSetup := setup.points
      system := system
      setupBlock := block
      setupFault := !block.good
      countMemory := { memory with lastIsA := lastIsA }
      countLost := memory.readsA.isNone
      causes := causes }
    true

/-- POWER (R205). -/
def execPower (together : Causes) (sensor : Presence) (damage : Damage) (s : State) : Answer :=
  .next (s.powered { together with power := true } sensor damage)

/-- BROWNOUT (R205). -/
def execBrownout (together : Causes) (sensor : Presence) (damage : Damage) (s : State) : Answer :=
  .next (s.powered { together with brownout := true } sensor damage)

/-! ## PIN and LINK (R205, R206) -/

/-- Everything a PIN or LINK reset leaves. A module settle wait in progress runs on (R205). A rounding unit that was not
saved gives way to the block's though records are live, and each keeps its owed (DESIGN CHOICE, log 59). A denomination
that was not saved, or that factory defaults replace, gives way too though SETTLED lists reserve the store, and each list
and its planned stay as they were (DESIGN CHOICE, log 73). -/
def State.restarted (s : State) (causes : Causes) (setUpBad : Bool) : State :=
  let block := s.setupBlock.found setUpBad
  let setup := block.loaded
  let system := setup.system.ordered
  let records := s.records.map (Option.map (Rec.interrupted s.time))
  State.beginStartUp
    { s with
      records := records
      stores := Vector.ofFn (fun i =>
        Store.kept (setup.station i) (!block.good) (reservedBy records i) (s.store i))
      points := ⟨s.points.p1.kept, s.points.p2.kept⟩
      engines := ⟨Engine.reset, Engine.reset, Engine.reset⟩
      bus := Bus.reset
      reconciler := ⟨[], []⟩
      cashbox := { s.cashbox with
        state := boxState system.boxCapacity system.boxNearFull s.cashbox.presence s.cashbox.count }
      ports := ⟨Port.reset, Port.reset, Port.reset⟩
      pointSetup := setup.points
      system := system
      setupBlock := block
      unsaved := false
      setupFault := !block.good
      causes := causes
      startUp := ⟨false, s.startUp.settling, if s.startUp.settling then s.startUp.resetEnd else s.time, false⟩ }
    false

/-- PIN (R205): its own flag is set, and LINK's when both arrived together. -/
def execPin (withLink : Bool) (setUpBad : Bool) (s : State) : Answer :=
  .next (s.restarted { s.causes with pin := true, link := s.causes.link || withLink } setUpBad)

/-- LINK (R205, R206): the reset of a RESET command whose reply has left; without one it has no effect (log 8). -/
def execLink (withPin : Bool) (setUpBad : Bool) (s : State) : Answer :=
  if s.startUp.resetPending = false ∨ (s.port .m).replyOwed = some .resetCommand then .next s.begun
  else .next (s.restarted { s.causes with link := true, pin := s.causes.pin || withPin } setUpBad)

/-! ## The settle wait and the end of start-up (R150, R207) -/

/-- MODULE_SETTLE_WAIT: 300 ms since the end of the reset: the requests that wait are granted (R150). -/
def execModuleSettleWait (s : State) : Answer :=
  let s := s.begun
  if s.startUp.settling = false then .next s
  else
    let s := s.reach s.startUp.resetEnd 30
    let s := s.setStartUp { s.startUp with settling := false }
    (if s.bus.holder.isNone then s.passBus else s).answerAll

/-- R78: the lapses that fell due during the reset and start-up, in slot order. -/
def State.lapseDue (s : State) : List Slot → State
  | [] => s
  | i :: rest =>
    let s :=
      match s.slot i with
      | some r =>
        match r.state, r.lapseAt with
        | .settled, some moment => if reached s.time moment then s.lapsed i else s
        | _, _ => s
      | none => s
    s.lapseDue rest

/-- R166, R198: the level-type kinds latched at the end of start-up. -/
def State.latchHeld (s : State) : State :=
  ([Event.storeFault, .cashboxFull, .cashboxRemoved]).foldl
    (fun s k => if s.levelHolds k then s.latch k none else s) s

/-- R173, R150: the reads and settings that start-up did not make. -/
def State.placeLeft (s : State) : List Station → State
  | [] => s
  | i :: rest =>
    let s := s.placeSettings i
    let s := if (s.store i).working && (s.store i).unverified then s.placeVerify i else s
    s.placeLeft rest

/-- R207: whether start-up may end: the settle wait is over and none of its exchanges is left. -/
def State.startUpDone (s : State) : Bool :=
  !s.startUp.ended && !s.startUp.settling && s.reconciler.work.all (fun w => !w.ofStartUp)

/-- R207: the end of start-up: the lapses due, each line's IDENTIFY, the kept credits, the events of what still holds,
and the reads that are left. -/
def State.startUpEnded (s : State) : State :=
  let s := s.setStartUp { s.startUp with ended := true }
  let s := s.lapseDue allSlots
  let s := (s.startLine .p1).startLine .p2
  let s := (s.applyCredits .p1).applyCredits .p2
  s.latchHeld.placeLeft allStations

/-- END_OF_START_UP (R207). -/
def execEndOfStartUp (s : State) : Answer :=
  let s := s.begun
  if s.startUpDone then s.startUpEnded.answerAll else .next s

end Sys2Proof.Machine
end

