-- ==== Sys2Proof/Machine/Dispatch.lean ====
section
/-! DEFINITION. Which meaning each command has. -/

namespace Sys2Proof.Machine

def exec (i : Instr) (s : State) : Host.Outcome State Fault Refusal :=
  match i with
  | .openRecord port body => Sys2Proof.Machine.execOpenRecord port body s
  | .amend port body => Sys2Proof.Machine.execAmend port body s
  | .bind port body => Sys2Proof.Machine.execBind port body s
  | .unbind port body => Sys2Proof.Machine.execUnbind port body s
  | .handover port body => Sys2Proof.Machine.execHandover port body s
  | .voidRecord port body => Sys2Proof.Machine.execVoidRecord port body s
  | .closeShort port body => Sys2Proof.Machine.execCloseShort port body s
  | .retire port body => Sys2Proof.Machine.execRetire port body s
  | .queryRecord port body => Sys2Proof.Machine.execQueryRecord port body s
  | .listRecords port body => Sys2Proof.Machine.execListRecords port body s
  | .settle port body => Sys2Proof.Machine.execSettle port body s
  | .pay port body => Sys2Proof.Machine.execPay port body s
  | .abort port body => Sys2Proof.Machine.execAbort port body s
  | .skim port body => Sys2Proof.Machine.execSkim port body s
  | .skimTo port body => Sys2Proof.Machine.execSkimTo port body s
  | .testEject port body => Sys2Proof.Machine.execTestEject port body s
  | .queryPoint port body => Sys2Proof.Machine.execQueryPoint port body s
  | .clearUnclaimed port body => Sys2Proof.Machine.execClearUnclaimed port body s
  | .floatBegin port body => Sys2Proof.Machine.execFloatBegin port body s
  | .floatEnd port body => Sys2Proof.Machine.execFloatEnd port body s
  | .queryStore port body => Sys2Proof.Machine.execQueryStore port body s
  | .disable port body => Sys2Proof.Machine.execDisable port body s
  | .enable port body => Sys2Proof.Machine.execEnable port body s
  | .setStore port body => Sys2Proof.Machine.execSetStore port body s
  | .refillBegin port body => Sys2Proof.Machine.execRefillBegin port body s
  | .refillEnd port body => Sys2Proof.Machine.execRefillEnd port body s
  | .refillCancel port body => Sys2Proof.Machine.execRefillCancel port body s
  | .queryCashbox port body => Sys2Proof.Machine.execQueryCashbox port body s
  | .readFault port body => Sys2Proof.Machine.execReadFault port body s
  | .clearFault port body => Sys2Proof.Machine.execClearFault port body s
  | .readEvents port body => Sys2Proof.Machine.execReadEvents port body s
  | .clearEvents port body => Sys2Proof.Machine.execClearEvents port body s
  | .setMask port body => Sys2Proof.Machine.execSetMask port body s
  | .setPoint port body => Sys2Proof.Machine.execSetPoint port body s
  | .setSystem port body => Sys2Proof.Machine.execSetSystem port body s
  | .saveSetup port body write => Sys2Proof.Machine.execSaveSetup port body write s
  | .readCause port body => Sys2Proof.Machine.execReadCause port body s
  | .resetCommand port body => Sys2Proof.Machine.execResetCommand port body s
  | .asPoint port body => Sys2Proof.Machine.execAsPoint port body s
  | .quiet port body => Sys2Proof.Machine.execQuiet port body s
  | .unknown port kind code => Sys2Proof.Machine.execUnknown port kind code s
  | .check port code => Sys2Proof.Machine.execCheck port code s
  | .lengthSilence port length => Sys2Proof.Machine.execLengthSilence port length s
  | .interByteGap port => Sys2Proof.Machine.execInterByteGap port s
  | .frameWhileReplyOwed port => Sys2Proof.Machine.execFrameWhileReplyOwed port s
  | .power together sensor damage => Sys2Proof.Machine.execPower together sensor damage s
  | .brownout together sensor damage => Sys2Proof.Machine.execBrownout together sensor damage s
  | .pin withLink setUpBad => Sys2Proof.Machine.execPin withLink setUpBad s
  | .link withPin setUpBad => Sys2Proof.Machine.execLink withPin setUpBad s
  | .moduleSettleWait => Sys2Proof.Machine.execModuleSettleWait s
  | .endOfStartUp => Sys2Proof.Machine.execEndOfStartUp s
  | .lapse tag => Sys2Proof.Machine.execLapse tag s
  | .cashboxPresence level => Sys2Proof.Machine.execCashboxPresence level s
  | .accepted point item denomination => Sys2Proof.Machine.execAccepted point item denomination s
  | .ident point recognised held => Sys2Proof.Machine.execIdent point recognised held s
  | .maskHeld point mask => Sys2Proof.Machine.execMaskHeld point mask s
  | .acceptorBadCheck point => Sys2Proof.Machine.execAcceptorBadCheck point s
  | .maskUpdate point => Sys2Proof.Machine.execMaskUpdate point s
  | .silent point => Sys2Proof.Machine.execSilent point s
  | .noIdent point => Sys2Proof.Machine.execNoIdent point s
  | .identify point => Sys2Proof.Machine.execIdentify point s
  | .busGrant => Sys2Proof.Machine.execBusGrant s
  | .replyWait => Sys2Proof.Machine.execReplyWait s
  | .noReply => Sys2Proof.Machine.execNoReply s
  | .badOp station => Sys2Proof.Machine.execBadOp station s
  | .divert station done => Sys2Proof.Machine.execDivert station done s
  | .divertFill station done => Sys2Proof.Machine.execDivertFill station done s
  | .eject station done => Sys2Proof.Machine.execEject station done s
  | .result station final => Sys2Proof.Machine.execResult station final s
  | .resultReask asker => Sys2Proof.Machine.execResultReask asker s
  | .resultDeadline asker => Sys2Proof.Machine.execResultDeadline asker s
  | .status station jam door held gate => Sys2Proof.Machine.execStatus station jam door held gate s
  | .tally station value gate => Sys2Proof.Machine.execTally station value gate s
  | .band station level => Sys2Proof.Machine.execBand station level s
  | .deferredBandRead station => Sys2Proof.Machine.execDeferredBandRead station s
  | .clearAttn station => Sys2Proof.Machine.execClearAttn station s
  | .window station => Sys2Proof.Machine.execWindow station s
  | .stageOn station => Sys2Proof.Machine.execStageOn station s
  | .stageOff station => Sys2Proof.Machine.execStageOff station s
  | .fillOpen station done => Sys2Proof.Machine.execFillOpen station done s
  | .fillClose station tally => Sys2Proof.Machine.execFillClose station tally s
  | .ejectReconciliation station read => Sys2Proof.Machine.execEjectReconciliation station read s
  | .attentionPoll => Sys2Proof.Machine.execAttentionPoll s
  | .attentionMap slots => Sys2Proof.Machine.execAttentionMap slots s
  | .replySent port => Sys2Proof.Machine.execReplySent port s

end Sys2Proof.Machine
end

