-- ==== Sys2Proof/Machine/Step.lean ====
section
/-! DEFINITION. One step: the command at the front of the queue, or a tick of the time count on an empty queue. -/

namespace Sys2Proof.Machine

/-- With nothing waiting, the time count advances by one unit of 10 ms (R205; DESIGN CHOICE, log 12). -/
def State.ticked (s : State) : State := s.setTime (s.time + 1#32)

/-- One step: the command at the front of the queue runs on the state with the queue's rest. -/
def step (s : State) : Host.Outcome State Fault Refusal :=
  match s.pending with
  | [] => .next s.ticked
  | c :: rest => exec c (s.setPending rest)

/-- A command put at the front of the queue. -/
def State.ask (s : State) (c : Instr) : State := s.setPending (c :: s.pending)

/-- The state with the command that a table word spells at the front of its queue; unchanged where it spells none. -/
def State.withFetchWord (s : State) (nbits w : Nat) : State :=
  match decodeTableWord nbits w with
  | some c => s.ask c
  | none => s

end Sys2Proof.Machine
end

