-- ==== Sys2Proof/Safety.lean ====
section
/-! DEFINITION. What the statements are said in: the invariants a safe state has, the parts of the state a frame names,
the conditions under which a port takes a command, and what a port holds after its answer. -/

namespace Sys2Proof.Machine

/-! ## Invariants -/

/-- R6: every store's LOW, HIGH and NEAR-FULL follow from its count and thresholds. -/
def State.levelsAgree (s : State) : Prop :=
  ∀ i, ((s.store i).low = true ↔ (s.store i).count ≤ (s.store i).cfg.low)
    ∧ ((s.store i).high = true ↔ (s.store i).cfg.high ≤ (s.store i).count)
    ∧ ((s.store i).nearFull = true ↔ (s.store i).cfg.routeLimit ≤ (s.store i).count)

/-- R5: a threshold chain in order, and an eject window within its range. -/
def StoreCfg.inOrder (c : StoreCfg) : Prop :=
  c.low < c.high ∧ c.high ≤ c.routeLimit ∧ c.routeLimit ≤ c.capacity ∧ c.floor ≤ c.capacity
    ∧ 10 ≤ c.window ∧ c.window ≤ 200

/-- R3, R5: every store's chain is in order, and its count is within its capacity. -/
def State.chainsOrdered (s : State) : Prop :=
  ∀ i, (s.store i).cfg.inOrder ∧ (s.store i).count ≤ (s.store i).cfg.capacity

/-- R160: the cashbox monitor's state follows from presence, count, capacity and near-full level. -/
def State.boxAgrees (s : State) : Prop :=
  s.cashbox.state
    = match s.cashbox.presence with
      | .out => BoxState.removed
      | .inPlace =>
        if s.system.boxCapacity ≤ s.cashbox.count then BoxState.full
        else if s.system.boxNearFull ≤ s.cashbox.count then BoxState.nearFull else BoxState.ok

/-- R204: the copy of count memory written or read last, where its check passes, holds the running figures. -/
def State.countsKept (s : State) : Prop :=
  s.countMemory.newer.good = true →
    s.countMemory.newer.data.stations = s.stores.map Store.counts
      ∧ s.countMemory.newer.data.boxCount = s.cashbox.count
      ∧ s.countMemory.newer.data.boxValue = s.cashbox.value

/-- R92, R93: every point's accept mask is the one R92 forms from the state, and on a line that is UP it is the mask
sent last. -/
def State.masksFormed (s : State) : Prop :=
  ∀ p, (s.point p).mask = s.acceptMask p ∧ ((s.point p).line = .up → (s.point p).maskSent = some (s.acceptMask p))

/-- R25, R27: no two live records have the same tag. -/
def State.tagsDistinct (s : State) : Prop :=
  ∀ i j r q, s.slot i = some r → s.slot j = some q → r.tag = q.tag → i = j

/-- R27, R71: a reservation list names each station once, holds no empty entry, and is absent outside SETTLED and
PAYING. -/
def Rec.listFormed (r : Rec) : Prop :=
  (r.list.map Entry.station).Nodup ∧ (∀ en ∈ r.list, 0 < en.items)
    ∧ (r.state ≠ .settled → r.state ≠ .paying → r.list = [])

/-- R40, R109: an engine with a record is a service point's, and pays the live record in PAYING bound to its point. -/
def State.enginesPay (s : State) : Prop :=
  (∀ p tag, (s.engine (pointEngine p)).record = some tag →
      (s.point p).binding = .record tag ∧ ∃ i r, s.slot i = some r ∧ r.tag = tag ∧ r.state = .paying)
    ∧ (s.engine .m).record = none

/-- R40: the two points are not bound to one record. -/
def State.bindingsDistinct (s : State) : Prop :=
  ∀ tag, ¬((s.point .p1).binding = .record tag ∧ (s.point .p2).binding = .record tag)

/-- The items that the reservation lists of all records hold at a station. -/
def State.listedAt (s : State) (i : Station) : Nat :=
  (allSlots.map (fun j => ((s.slot j).map (fun r => itemsAt r.list i)).getD 0)).sum

/-- R3, R71: every store's reserved is what the reservation lists hold there, and is within its count. -/
def State.poolAgrees (s : State) : Prop :=
  s.tagsDistinct ∧ s.bindingsDistinct ∧ (∀ i r, s.slot i = some r → r.listFormed) ∧ s.enginesPay
    ∧ ∀ i, (s.store i).reserved = s.listedAt i ∧ (s.store i).reserved ≤ (s.store i).count

/-- R20 to R22: every store's waiting list holds each engine at most once and is empty without a holder, the engines on
the list stand at the store with that grant, and the holder is the engine that stands there with the grant held; an IDLE
engine, or one without its record or its run, has none. Only the holder of a grant waits for an eject, a band read (its
store's) or the bus, for one of them at a time; its exchange on the bus is a RESULT while an eject is outstanding and
another while none is, and one that it gave up is a DIVERT. -/
def State.arbitersSound (s : State) : Prop :=
  (∀ i, (s.store i).waiting.Nodup ∧ ((s.store i).holder = none → (s.store i).waiting = []))
    ∧ (∀ i e, ((s.store i).holder = some e ↔ (s.engine e).station = some i ∧ (s.engine e).grant = .held)
      ∧ (e ∈ (s.store i).waiting → (s.engine e).station = some i ∧ (s.engine e).grant = .waiting))
    ∧ (∀ e, ((s.engine e).state = .idle ∨ (e ≠ .m ∧ (s.engine e).record = none)
          ∨ (e = .m ∧ (s.engine e).run = none) → (s.engine e).grant = .none)
      ∧ ((s.engine e).grant ≠ .held →
        (s.engine e).outstanding = none ∧ (s.engine e).bandAwaited = none ∧ (s.engine e).needs = none)
      ∧ ((s.engine e).bandAwaited.isSome = true →
        (s.engine e).bandAwaited = (s.engine e).station ∧ (s.engine e).outstanding = none ∧ (s.engine e).needs = none)
      ∧ ((s.engine e).outstanding.isSome = true → (s.engine e).needs = none ∨ (s.engine e).needs = some .result))
    ∧ ∀ x, s.bus.exchange = some x → ∀ e, x.requester = .engine e →
      (x.abandoned = true → x.op ≠ .eject ∧ x.op ≠ .result)
        ∧ (x.abandoned = false → (s.engine e).grant = .held ∧ (s.engine e).bandAwaited = none
          ∧ (x.op = .result ↔ (s.engine e).outstanding.isSome = true))

/-- R97, R99: every credit of a queue is applied, and the head is not routed. -/
def Point.queueSettled (x : Point) : Prop :=
  (∀ c ∈ x.queue, c.applied = true) ∧ ∀ c, x.queue.head? = some c → c.route = none

/-- Whether a point is bound to a record in PAYING. -/
def State.payingAt (s : State) (p : PointId) : Prop :=
  ∃ i r, s.slot i = some r ∧ (s.point p).binding = .record r.tag ∧ r.state = .paying

/-- R99: outside start-up, credits wait only at a point bound to a record in PAYING. -/
def State.creditsSettled (s : State) : Prop :=
  s.tagsDistinct ∧ s.bindingsDistinct ∧ s.enginesPay
    ∧ (s.startUp.ended = true → ∀ p, s.payingAt p ∨ (s.point p).queueSettled)

/-! ## Splits -/

/-- R56: a split is admissible for the availability of each denomination, an items limit and a target: no count above
its availability, no more items than the limit, and the target's value exactly. -/
def Admissible (available : List (Nat × Nat)) (limit target : Nat) (ns : List Nat) : Prop :=
  List.Forall₂ (fun x n => n ≤ x.2) available ns ∧ ns.sum ≤ limit
    ∧ ((available.zip ns).map (fun x => x.2 * x.1.1)).sum = target

/-! ## Frames -/

/-- The parts of the state. -/
inductive Part where
  | time | records | stores | points | engines | bus | reconciler | storeBanks | pointBanks | cashbox | ports
  | pointSetup | system | setupBlock | unsaved | setupFault | countMemory | countLost | causes | startUp | free
deriving DecidableEq, Repr

/-- A point without its accept mask and the messages sent, which every action may renew (R93). -/
def Point.core (x : Point) : Point := { x with mask := [], maskSent := none, maskSentAt := none, sent := [] }

/-- A store without its reserved and its arbiter, which the end of a payout may change (R21, R72). -/
def Store.core (r : Store) : Store := { r with reserved := 0, holder := none, waiting := [], burst := 0 }

/-- A port without its latched set. -/
def Port.core (x : Port) : Port := { x with latched := 0 }

/-- That one part is the same in two states. -/
def Part.same (s t : State) : Part → Prop
  | .time => t.time = s.time
  | .records => t.records = s.records
  | .stores => t.stores = s.stores
  | .points => ∀ p, (t.point p).core = (s.point p).core
  | .engines => t.engines = s.engines
  | .bus => t.bus = s.bus
  | .reconciler => t.reconciler = s.reconciler
  | .storeBanks => t.storeBanks = s.storeBanks
  | .pointBanks => t.pointBanks = s.pointBanks
  | .cashbox => t.cashbox = s.cashbox
  | .ports => t.ports = s.ports
  | .pointSetup => t.pointSetup = s.pointSetup
  | .system => t.system = s.system
  | .setupBlock => t.setupBlock = s.setupBlock
  | .unsaved => t.unsaved = s.unsaved
  | .setupFault => t.setupFault = s.setupFault
  | .countMemory => t.countMemory = s.countMemory
  | .countLost => t.countLost = s.countLost
  | .causes => t.causes = s.causes
  | .startUp => t.startUp = s.startUp
  | .free => t.free = s.free

/-- Nothing but the parts named has changed. -/
def Frame (changed : List Part) (s t : State) : Prop :=
  t.pending = s.pending ∧ ∀ part, part ∉ changed → part.same s t

/-- Every slot but one is unchanged. -/
def OtherSlots (i : Slot) (s t : State) : Prop := ∀ j, j ≠ i → t.slot j = s.slot j

/-- Every store but one is unchanged. -/
def OtherStores (i : Station) (s t : State) : Prop := ∀ j, j ≠ i → t.store j = s.store j

/-- Every store but one is unchanged, up to its reserved and its arbiter. -/
def OtherStoreCores (i : Station) (s t : State) : Prop := ∀ j, j ≠ i → (t.store j).core = (s.store j).core

/-- The other point is unchanged, up to its accept mask. -/
def OtherPoint (p : PointId) (s t : State) : Prop := ∀ q, q ≠ p → (t.point q).core = (s.point q).core

/-- Every port but one is unchanged. -/
def OtherPorts (p : PortId) (s t : State) : Prop := ∀ q, q ≠ p → t.port q = s.port q

/-- Every engine but one is unchanged. -/
def OtherEngines (e : EngineId) (s t : State) : Prop := ∀ d, d ≠ e → t.engine d = s.engine d

/-! ## The bus and the engines -/

/-- The bus as R144 and R145 let it be: with no holder nothing is on the wires. -/
def Bus.sound (b : Bus) : Prop := b.holder = none → b.exchange = none ∧ b.polling = false

/-- The exchange in progress at a station, its request given up or not. -/
def State.onWire (s : State) (station : BitVec 4) (r : Requester) (i : Station) (op : TubeOp) (abandoned : Bool) : Prop :=
  replyStation station = some i
    ∧ ∃ q, ∃ b, s.bus.exchange = some ⟨r, i, op, q, b, abandoned⟩

/-- R20, R113: an engine that asked for a store: the holder, with its DIVERT asked of the bus, where none held it;
else on the waiting list, at whose end it stands unless it was there or held the store before. -/
def Asked (s t : State) (e : EngineId) (i : Station) (x : Engine) : Prop :=
  ((s.store i).holder = none →
      t.engine e = { x with station := some i, grant := .held, needs := some .divert, repeats := 0 }
        ∧ t.store i = { s.store i with holder := some e, burst := 0 } ∧ t.bus.standing (.engine e) = true)
    ∧ ((s.store i).holder ≠ none → (s.store i).holder ≠ some e → e ∉ (s.store i).waiting →
      t.engine e = { x with station := some i, grant := .waiting, needs := none, repeats := 0 }
        ∧ t.store i = { s.store i with waiting := (s.store i).waiting ++ [e] })

/-- R129 to R131: a run of engine M started at a store, and the store asked for. -/
def RunStarted (s t : State) (kind : RunKind) (i : Station) (goal : Nat) : Prop :=
  Asked s t .m i { Engine.reset with
      state := .running, run := some ⟨kind, i, goal, 0⟩, lastRun := (s.engine .m).lastRun }
    ∧ OtherEngines .m s t ∧ OtherStores i s t ∧ Frame [.stores, .engines, .bus, .reconciler, .ports, .free] s t

/-- R129: engine M, the cashbox and a store ready for a run. -/
def State.readyToRun (s : State) (i : Station) : Prop :=
  (s.engine .m).state = .idle ∧ (s.cashbox.state = .ok ∨ s.cashbox.state = .nearFull) ∧ (s.store i).state = .active

/-- The next exchange of the reconciler's work list is its own work's, and stands on the wire at the work's station. -/
def State.workOnWire (s : State) (station : BitVec 4) (w : Work) (rest : List Work) (op : TubeOp) : Prop :=
  s.onWire station .reconciler w.station op false ∧ s.reconciler.work = w :: rest

/-- The end of an action leaves a piece of work as it stands: it does not only verify the count of an OFFLINE store
(R174), and no final NONE is behind it at a store outside ACTIVE and EMPTY (R176). -/
def State.stays (s : State) (w : Work) : Prop :=
  (w.onlyVerifies = true → (s.store w.station).state ≠ .offline)
    ∧ (w.afterNone = true → (s.store w.station).working = true)

/-- R10, R176: whether the band of a read takes the store to JAMMED: one that is not EMPTY, read after a final NONE at a
store in ACTIVE or EMPTY. -/
def State.noneJams (s : State) (w : Work) (b : Band) : Bool :=
  w.afterNone && b != .empty && (s.store w.station).working

/-- R8, R176: a store's bank after a read: JAM with the band as extra where a final NONE was behind it and the band is not
EMPTY, whatever state the store is in. n is the count that the comparison left. -/
def State.jamTaken (s : State) (w : Work) (b : Band) (n : Nat) (k : Bank) : Bank :=
  if w.afterNone && b != .empty then k.take ⟨.jam, s.time, some n, none, none, .reconciler, some (bandCode b)⟩ else k

/-- R11: the state an offline cause takes a store to. -/
def StoreState.offlined : StoreState → StoreState
  | .active | .empty | .jammed | .refill | .offline => .offline
  | .disabled => .disabled

/-- R11, R136, R168: an exchange has failed: the store is OFFLINE unless it is DISABLED, UNVERIFIED too from REFILL, the
fault stands in its bank with the operation as its extra figure, STORE-FAULT is latched, and the wires are free. -/
def ExchangeFailed (s t : State) (x : Exchange) (code : FaultCode) : Prop :=
  (t.store x.station).state = (s.store x.station).state.offlined
    ∧ (t.store x.station).unverified
      = ((s.store x.station).unverified || decide ((s.store x.station).state = .refill))
    ∧ (t.store x.station).count = (s.store x.station).count
    ∧ (∃ source, t.storeBank x.station
        = (s.storeBank x.station).take
            ⟨code, s.time, some (s.store x.station).count, none, none, source, some x.op.code⟩)
    ∧ (∀ i, i ≠ x.station → t.storeBank i = s.storeBank i)
    ∧ (∀ q, q ≠ .m → (t.port q).latched &&& Event.storeFault.mask = Event.storeFault.mask)
    ∧ t.bus.exchange = none ∧ t.bus.polling = false

/-- R122: the plan that SUBSTITUTE finds for the value an engine released, within the items limit that is left and
without the excluded stores; none where it finds nothing to place. -/
def State.substitutePlan (s : State) (p : PointId) : Option (List Entry) :=
  (s.planSubstitute (s.engine (pointEngine p)).excluded (s.substituteLimit p)
    ((s.engine (pointEngine p)).released.1 * (s.engine (pointEngine p)).released.2)).filter (fun l => !l.isEmpty)

/-- R194: a kind joins the latched set of every port that QUIET does not keep it from (R193) where its cause is there, and
stays or stays away elsewhere. -/
def LatchedBy (k : Event) (cause : Prop) (kept : PortId → Prop) (s t : State) : Prop :=
  ∀ q, (cause → ¬kept q → (t.port q).latched &&& k.mask = k.mask)
    ∧ (¬cause ∨ kept q → (t.port q).latched &&& k.mask = (s.port q).latched &&& k.mask)

/-- R7: an edge of LOW or HIGH that qualifies under the store's edge direction: a flag becomes set under ENTER or BOTH, or
clear under LEAVE or BOTH. -/
def LevelEdge (r after : Store) : Prop :=
  (after.cfg.edge ≠ .leave ∧ ((r.low = false ∧ after.low = true) ∨ (r.high = false ∧ after.high = true)))
    ∨ (after.cfg.edge ≠ .enter ∧ ((r.low = true ∧ after.low = false) ∨ (r.high = true ∧ after.high = false)))

/-- R7: an action that changed one store's count or thresholds latches STORE-LEVEL where an edge qualifies. -/
def LevelLatched (s t : State) (i : Station) (kept : PortId → Prop) : Prop :=
  LatchedBy .storeLevel (LevelEdge (s.store i) (t.store i)) kept s t

/-- R163: a change of the cashbox monitor's state without a removal latches CASHBOX-NEAR-FULL from PRESENT-OK to NEAR-FULL
or FULL, and CASHBOX-FULL from PRESENT-OK or NEAR-FULL to FULL. -/
def BoxLatched (s t : State) (kept : PortId → Prop) : Prop :=
  LatchedBy .cashboxNearFull
      (s.cashbox.state = .ok ∧ (t.cashbox.state = .nearFull ∨ t.cashbox.state = .full)) kept s t
    ∧ LatchedBy .cashboxFull
        ((s.cashbox.state = .ok ∨ s.cashbox.state = .nearFull) ∧ t.cashbox.state = .full) kept s t

/-- QUIET keeps an event from no port. -/
def keptFromNone (_ : PortId) : Prop := False

/-- R193: QUIET, where it was pending, keeps an event from Port M. -/
def keptFromM (quiet : Bool) (q : PortId) : Prop := quiet = true ∧ q = .m

/-- R125 steps 1 and 2: a record whose payout has ended: PAID when paid reaches owed and PART-PAID otherwise, its list
released. -/
def Rec.closed (r : Rec) (now : Time) : Rec :=
  { r with
    state := if r.owed.getD 0 ≤ r.paid then .paid else .partPaid, stateSince := now, list := [], planned := none
    delivered := none, lapseAt := none, settledFrom := none, pinned := false
    listChange := if r.list = [] then r.listChange else r.listChange + 1#8 }

/-- R125: the end of a payout, with the record as its last result left it: the record closed, the engine IDLE, and
PAYOUT-END latched. -/
def PayoutEnded (s t : State) (p : PointId) (j : Slot) (r : Rec) : Prop :=
  t.engine (pointEngine p) = Engine.reset ∧ t.slot j = some (r.closed s.time)
    ∧ (∀ q, (t.port q).latched &&& (payoutEnd (pointEngine p)).mask = (payoutEnd (pointEngine p)).mask)
    ∧ OtherEngines (pointEngine p) s t ∧ OtherSlots j s t

/-- R79: one record settled or was paid later than another, or at once in a higher slot. -/
def Later (now : Time) (j : Slot) (q : Rec) (j' : Slot) (q' : Rec) : Prop :=
  age now q.stateSince < age now q'.stateSince ∨ (age now q.stateSince = age now q'.stateSince ∧ j' < j)

/-- R79: a record holds an entry for a store, and is the youngest of its state that does. -/
def State.youngestHolder (s : State) (i : Station) (j : Slot) (q : Rec) : Prop :=
  s.slot j = some q ∧ listHas q.list i = true
    ∧ ∀ j' q', s.slot j' = some q' → q'.state = q.state → listHas q'.list i = true → j' ≠ j → Later s.time j q j' q'

/-- R180: the line LOST by a bad report, with the bank as it was before, and its route given up. -/
def LostByReport (s t : State) (p : PointId) (before : Bank) : Prop :=
  (t.point p).line = .lost ∧ (t.point p).routeOut = none ∧ (t.point p).watch = some s.time
    ∧ t.pointBank p = before.take ⟨.acceptorSilent, s.time, none, none, none, .intake p, some 3⟩
    ∧ (∀ q, (t.port q).latched &&& Event.pointFault.mask = Event.pointFault.mask) ∧ OtherPoint p s t

/-- R168: the capture of an item taken with the credit queue full. -/
def overrun (now : Time) (p : PointId) (d : Nat) : Capture := ⟨.queueOverrun, now, none, none, none, .intake p, some d⟩

/-- R119: the rest of an engine's entry is released and its store excluded, and a band read of the store is awaited. -/
def EntryDropped (s t : State) (p : PointId) (i : Station) (j : Slot) (r : Rec) : Prop :=
  (t.engine (pointEngine p)).bandAwaited = some i ∧ (t.engine (pointEngine p)).excluded.getLsbD i.val = true
    ∧ (t.engine (pointEngine p)).state = (s.engine (pointEngine p)).state
    ∧ t.slot j = some
        { r with
          list := r.list.filter (fun en => en.station != i)
          listChange := if itemsAt r.list i = 0 then r.listChange else r.listChange + 1#8
          planned := r.planned.map (· - itemsAt r.list i * (s.store i).cfg.denomination) }
    ∧ (t.store i).reserved = (s.store i).reserved - itemsAt r.list i ∧ (t.store i).count = (s.store i).count
    ∧ OtherSlots j s t ∧ OtherStores i s t
    ∧ (t.reconciler.work ++ t.reconciler.deferred).any (fun w => w.readsBand i) = true

/-! ## Commands at a port -/

/-- R183, R184, R186 to R188: a port takes a command: no reply is owed or being sent there, and steps 3 to 5 let it
through. -/
def State.ready (s : State) (p : PortId) (c : Cmd) : Prop :=
  (s.port p).replyOwed = none ∧ (s.port p).reply = none
    ∧ (s.startUp.ended = true ∨ c.duringStartUp = true)
    ∧ (s.setupFault = true → p = .m ∧ c.duringSetupFault = true)
    ∧ (p = .m ∨ c.openToWindows = true)

/-- R185, R186, R191: a port that has taken a command and answered it: qualifiers consumed, reply owed, and the reply.
-/
def Port.answered (x : Port) (c : Cmd) (status : Status) (contents : List Byte) : Port :=
  { x with
    assembly := .idle
    lastByteAt := none
    asPoint := none
    quiet := false
    replyOwed := some c
    reply := some ⟨c.code, status, contents⟩ }

/-- R186, R144: a port that has taken a command whose reply waits for a tube bus exchange. -/
def Port.waits (x : Port) (c : Cmd) : Port :=
  { x with assembly := .idle, lastByteAt := none, asPoint := none, quiet := false, replyOwed := some c }

/-- R186, R191: a port that refused a command before taking it: qualifiers consumed, nothing owed, and the reply. -/
def Port.turned (x : Port) (code : Byte) (status : Status) : Port :=
  { x with assembly := .idle, lastByteAt := none, asPoint := none, quiet := false, reply := some ⟨code, status, []⟩ }

/-- The port answered, and the other ports unchanged. -/
def Answered (s t : State) (p : PortId) (c : Cmd) (status : Status) (contents : List Byte) : Prop :=
  t.port p = (s.port p).answered c status contents ∧ OtherPorts p s t

/-- R186, R191: a frame refused before its command was taken. -/
def Turned (s t : State) (p : PortId) (code : Byte) (status : Status) : Prop :=
  t.port p = (s.port p).turned code status ∧ OtherPorts p s t ∧ Frame [.ports, .free] s t

/-- The port answered, with a kind latched into every port but one that QUIET keeps it out of (R193, R194). -/
def AnsweredLatching (s t : State) (p : PortId) (c : Cmd) (status : Status) (contents : List Byte) (k : Event) : Prop :=
  ∀ q, t.port q
    = ((if q = p then (s.port p).answered c status contents else s.port q).latch k (q = p && (s.port p).quiet))

/-- The live record with a tag stands in a slot, and no other record has its tag. -/
def State.holds (s : State) (tag : BitVec 16) (i : Slot) (r : Rec) : Prop :=
  tag ≠ 0#16 ∧ r.tag = tag.toNat ∧ s.slot i = some r ∧ ∀ j q, s.slot j = some q → q.tag = r.tag → j = i

/-- R65, R66: the record in a slot is SETTLED with a list and a shortfall, its hold started now, the list reserved in
place of its old one, and nothing else changed but the reply. -/
def Committed (s t : State) (i : Slot) (r : Rec) (list : List Entry) (shortfall : Option Nat) : Prop :=
  t.slot i = some
      { r with
        state := .settled, stateSince := s.time, list := list, listChange := r.listChange + 1#8
        planned := some (s.listValue list), delivered := none, shortfall := shortfall, pinned := false
        settledFrom :=
          (match r.state with
            | .settled => r.settledFrom
            | .partPaid => some .partPaid
            | .interrupted => some .interrupted
            | _ => some .new)
        lapseAt := some (s.time + BitVec.ofNat 32 (s.system.hold * 100)) }
    ∧ OtherSlots i s t
    ∧ (∀ st, t.store st =
        { s.store st with reserved := (s.store st).reserved - itemsAt r.list st + itemsAt list st })
    ∧ Frame [.records, .stores, .ports, .free] s t

/-- A record that SETTLE plans for: not PAYING, PAID or VOID, and owed more than was paid. -/
def Rec.toSettle (r : Rec) (target : Nat) : Prop :=
  r.state ≠ .paying ∧ r.state ≠ .paid ∧ r.state ≠ .void ∧ r.owed = some (r.paid + target) ∧ 0 < target

/-- No engine has anything to do at the end of an action (log 17): none awaits the read of a store that has left ACTIVE
and EMPTY, none stands at a store its list no longer names, and no run meets a cashbox that stops it. -/
def State.enginesQuiet (s : State) : Prop :=
  (∀ e i, (s.engine e).bandAwaited = some i → (s.store i).working = true)
    ∧ (∀ p, (s.engine (pointEngine p)).state = .idle ∨ (s.engine (pointEngine p)).grant = .none
        ∨ (s.engine (pointEngine p)).bandAwaited.isSome = true ∨ s.ejecting (pointEngine p) = true
        ∨ listHas (s.payList (pointEngine p)) (s.workStation (pointEngine p)) = true)
    ∧ ((s.engine .m).state = .running → s.boxStops = false)

/-- R94, R98: what may be routed at a point is being routed: a route is outstanding, or no item waits for one. -/
def Point.routesStarted (x : Point) : Prop :=
  x.routeOut ≠ none ∨ (x.releaseOwed = [] ∧ ∀ c ∈ x.queue, c.route ≠ none)

/-- R134, R146, R198, R207: what every reset leaves. -/
def FreshlyReset (t : State) (settling : Bool) : Prop :=
  (∀ e, t.engine e = Engine.reset)
    ∧ (∀ p, t.port p
        = ⟨.idle, none, none, none, none, false, Event.restart.mask, 0x7FFF⟩)
    ∧ (∀ p, (t.point p).line = .starting ∧ (t.point p).mask = [] ∧ (t.point p).routeOut = none)
    ∧ (∀ i, (t.store i).holder = none ∧ (t.store i).waiting = [] ∧ (t.store i).burst = 0)
    ∧ t.bus.exchange = none ∧ t.bus.poller = .quiet ∧ t.startUp.ended = false ∧ t.startUp.settling = settling
    ∧ t.startUp.resetPending = false ∧ t.unsaved = false

/-- R23, R199, R203: a reset's set-up: the block as found and, where its check fails, the factory defaults in SETUP-FAULT;
its entries are brought into order, the levels follow, and a store whose entry is absent is DISABLED, as every store is in
SETUP-FAULT. -/
def SetUpLoaded (s t : State) (bad : Bool) : Prop :=
  t.setupFault = (bad || !s.setupBlock.good)
    ∧ t.pointSetup = (if t.setupFault then SetupData.factory else s.setupBlock.data).points
    ∧ t.system = (if t.setupFault then SetupData.factory else s.setupBlock.data).system.ordered
    ∧ (∀ i, (t.store i).cfg
        = ((if t.setupFault then SetupData.factory else s.setupBlock.data).stations[i.val]'i.isLt).ordered
            (t.store i).count)
    ∧ (∀ i, (t.store i).cfg.inOrder ∧ (t.store i).count ≤ (t.store i).cfg.capacity)
    ∧ t.levelsAgree
    ∧ ∀ i, t.setupFault = true ∨ (t.store i).cfg.present = false → (t.store i).state = .disabled

/-- R23, R49, R108, R203 to R205: what POWER and BROWNOUT leave. -/
def PoweredUp (s t : State) (sensor : Presence) (damage : Damage) : Prop :=
  FreshlyReset t true ∧ SetUpLoaded s t damage.setUp ∧ (∀ i, t.slot i = none) ∧ t.time = 0
    ∧ (∀ p, (t.point p).core = { Point.reset with }.core)
    ∧ (∀ i, t.storeBank i = ⟨false, none⟩) ∧ (∀ p, t.pointBank p = ⟨false, none⟩)
    ∧ t.cashbox.presence = sensor ∧ t.cashbox.looseCount = 0 ∧ t.cashbox.looseValue = 0 ∧ t.boxAgrees
    ∧ (t.countLost = true ↔ (damage.copyA || !s.countMemory.copyA.good) = true
        ∧ (damage.copyB || !s.countMemory.copyB.good) = true)
    ∧ (t.countLost = true → ∀ i, (t.store i).count = 0 ∧ (t.store i).moduleTally = 0)
    ∧ (∀ i, (t.store i).reserved = 0 ∧ (t.store i).unverified = true ∧ (t.store i).held = false)
    ∧ (∀ i, t.setupFault = false → (t.store i).cfg.present = true →
        (t.store i).state = workingState (t.store i).count)
    ∧ (damage.copyA = false → s.countMemory.copyA.good = true →
        (damage.copyB = true ∨ s.countMemory.copyB.good = false
          ∨ (s.countMemory.copyA.data.number - s.countMemory.copyB.data.number).toNat < 2 ^ 31) →
        (∀ i, (t.store i).counts = s.countMemory.copyA.data.stations[i.val]'i.isLt)
          ∧ t.cashbox.count = s.countMemory.copyA.data.boxCount ∧ t.cashbox.value = s.countMemory.copyA.data.boxValue)
    ∧ (damage.copyB = false → s.countMemory.copyB.good = true →
        (damage.copyA = true ∨ s.countMemory.copyA.good = false
          ∨ 2 ^ 31 ≤ (s.countMemory.copyA.data.number - s.countMemory.copyB.data.number).toNat) →
        (∀ i, (t.store i).counts = s.countMemory.copyB.data.stations[i.val]'i.isLt)
          ∧ t.cashbox.count = s.countMemory.copyB.data.boxCount ∧ t.cashbox.value = s.countMemory.copyB.data.boxValue)

/-- R50, R108, R182, R205: what PIN and LINK leave: a store, a record and what is kept. -/
def Restarted (s t : State) (bad : Bool) (i : Station) (j : Slot) : Prop :=
  FreshlyReset t s.startUp.settling ∧ SetUpLoaded s t bad ∧ t.time = s.time
    ∧ t.storeBanks = s.storeBanks ∧ t.pointBanks = s.pointBanks ∧ t.countMemory = s.countMemory
    ∧ t.cashbox.count = s.cashbox.count ∧ t.cashbox.value = s.cashbox.value ∧ t.boxAgrees
    ∧ (t.store i).counts = (s.store i).counts ∧ (t.store i).reserved = t.listedAt i
    ∧ ((t.store i).unverified = ((s.store i).unverified || (s.store i).ejectRecord.isSome))
    ∧ (t.setupFault = false → (t.store i).cfg.present = true → (t.store i).state = (s.store i).state)
    ∧ (t.store i).held = (s.store i).held
    ∧ (∀ p, (t.point p).binding = (s.point p).binding ∧ (t.point p).queue = (s.point p).queue
        ∧ (t.point p).unclaimed = (s.point p).unclaimed ∧ (t.point p).releaseOwed = (s.point p).releaseOwed)
    ∧ t.slot j = (s.slot j).map (fun r =>
        if r.state = .paying then
          { r with
            state := .interrupted, stateSince := s.time, list := [], planned := none, delivered := none
            lapseAt := none, settledFrom := none, pinned := false
            listChange := if r.list = [] then r.listChange else r.listChange + 1#8 }
        else r)

/-- Every engine is IDLE and awaits no band read. -/
def State.enginesRest (s : State) : Prop :=
  ∀ e, (s.engine e).state = .idle ∧ (s.engine e).bandAwaited = none

/-- Every store's reserved has fallen by what a list held there, and nothing else of any store has changed. -/
def Released (list : List Entry) (s t : State) : Prop :=
  ∀ i, t.store i = { s.store i with reserved := (s.store i).reserved - itemsAt list i }

/-- The reply of an action that may also have ended a payout or a run: every port but for its latched set. -/
def AnsweredCore (s t : State) (p : PortId) (c : Cmd) (status : Status) (contents : List Byte) : Prop :=
  ∀ q, (t.port q).core = (if q = p then (s.port p).answered c status contents else s.port q).core

end Sys2Proof.Machine

namespace Sys2Proof

open Sys2Proof.Machine

/-! ## What a frame carries -/

/-- The command that a terminal's frame carries, with its port. -/
def Instr.command : Instr → Option (PortId × Cmd)
  | .openRecord p _ => some (p, .openRecord)
  | .amend p _ => some (p, .amend)
  | .bind p _ => some (p, .bind)
  | .unbind p _ => some (p, .unbind)
  | .handover p _ => some (p, .handover)
  | .voidRecord p _ => some (p, .voidRecord)
  | .closeShort p _ => some (p, .closeShort)
  | .retire p _ => some (p, .retire)
  | .queryRecord p _ => some (p, .queryRecord)
  | .listRecords p _ => some (p, .listRecords)
  | .settle p _ => some (p, .settle)
  | .pay p _ => some (p, .pay)
  | .abort p _ => some (p, .abort)
  | .skim p _ => some (p, .skim)
  | .skimTo p _ => some (p, .skimTo)
  | .testEject p _ => some (p, .testEject)
  | .queryPoint p _ => some (p, .queryPoint)
  | .clearUnclaimed p _ => some (p, .clearUnclaimed)
  | .floatBegin p _ => some (p, .floatBegin)
  | .floatEnd p _ => some (p, .floatEnd)
  | .queryStore p _ => some (p, .queryStore)
  | .disable p _ => some (p, .disable)
  | .enable p _ => some (p, .enable)
  | .setStore p _ => some (p, .setStore)
  | .refillBegin p _ => some (p, .refillBegin)
  | .refillEnd p _ => some (p, .refillEnd)
  | .refillCancel p _ => some (p, .refillCancel)
  | .queryCashbox p _ => some (p, .queryCashbox)
  | .readFault p _ => some (p, .readFault)
  | .clearFault p _ => some (p, .clearFault)
  | .readEvents p _ => some (p, .readEvents)
  | .clearEvents p _ => some (p, .clearEvents)
  | .setMask p _ => some (p, .setMask)
  | .setPoint p _ => some (p, .setPoint)
  | .setSystem p _ => some (p, .setSystem)
  | .saveSetup p _ _ => some (p, .saveSetup)
  | .readCause p _ => some (p, .readCause)
  | .resetCommand p _ => some (p, .resetCommand)
  | _ => none

/-- R210: whether a byte is one of the codes of a table. -/
def coded (codes : List Byte) (b : Byte) : Bool := codes.contains b

/-- Whether a byte that is given is one of the codes of a table. -/
def optCoded (codes : List Byte) : Option Byte → Bool
  | none => true
  | some b => coded codes b

/-- R186 step 6, R210: whether a body does not fit its command: its length or field mask, or a byte or bit in it that
the tables give no meaning. -/
def Body.unfit {α : Type} (wellCoded : α → Bool) : Body α → Bool
  | .misfit => true
  | .fits f => !wellCoded f

/-- The codes that the bytes of a body must have, or no more than its length and field mask. -/
def anyCodes {α : Type} (_ : α) : Bool := true

/-- Whether a terminal's frame carries a command whose body does not fit it (R186 step 6, R210; yes and no are 1 and 0,
log 20). -/
def Instr.misfits : Instr → Bool
  | .openRecord _ b => b.unfit (fun f => coded [1, 2] f.kind)
  | .amend _ b => b.unfit anyCodes
  | .bind _ b => b.unfit (fun f => coded [1, 2] f.point)
  | .unbind _ b => b.unfit anyCodes
  | .handover _ b => b.unfit (fun f => coded [1, 2] f.point)
  | .voidRecord _ b => b.unfit anyCodes
  | .closeShort _ b => b.unfit anyCodes
  | .retire _ b => b.unfit anyCodes
  | .queryRecord _ b => b.unfit (fun f => coded [1, 2, 3] f.part)
  | .listRecords _ b => b.unfit anyCodes
  | .settle _ b => b.unfit anyCodes
  | .pay _ b => b.unfit anyCodes
  | .abort _ b => b.unfit (fun f => coded [1, 2, 3] f.value)
  | .skim _ b => b.unfit anyCodes
  | .skimTo _ b => b.unfit anyCodes
  | .testEject _ b => b.unfit anyCodes
  | .queryPoint _ b => b.unfit (fun f => coded [1, 2] f.point && coded [1, 2, 3, 4] f.part)
  | .clearUnclaimed _ b => b.unfit (fun f => coded [1, 2] f.value)
  | .floatBegin _ b => b.unfit (fun f => coded [1, 2] f.value)
  | .floatEnd _ b => b.unfit (fun f => coded [1, 2] f.value)
  | .queryStore _ b => b.unfit anyCodes
  | .disable _ b => b.unfit anyCodes
  | .enable _ b => b.unfit anyCodes
  | .setStore _ b =>
    b.unfit (fun f =>
      optCoded [0, 1] f.present && optCoded [0, 1] f.kind && optCoded [1, 2, 3] f.edge && optCoded [0, 1] f.staging)
  | .refillBegin _ b => b.unfit anyCodes
  | .refillEnd _ b => b.unfit anyCodes
  | .refillCancel _ b => b.unfit anyCodes
  | .queryCashbox _ b => b.unfit anyCodes
  | .readFault _ b => b.unfit (fun f => coded [1] f.kind || (coded [2] f.kind && coded [1, 2] f.number))
  | .clearFault _ b => b.unfit (fun f => coded [1] f.kind || (coded [2] f.kind && coded [1, 2] f.number))
  | .readEvents _ b => b.unfit anyCodes
  | .clearEvents _ b => b.unfit (fun f => !f.kinds.getLsbD 15)
  | .setMask _ b => b.unfit (fun f => !f.kinds.getLsbD 15)
  | .setPoint _ b =>
    b.unfit (fun f => coded [1, 2] f.point && optCoded [1, 2, 3, 4] f.mode && optCoded [0, 1] f.short)
  | .setSystem _ b => b.unfit (fun f => (f.attention.map (fun m => decide (m.toNat < 4096))).getD true)
  | .saveSetup _ b _ => b.unfit anyCodes
  | .readCause _ b => b.unfit anyCodes
  | .resetCommand _ b => b.unfit anyCodes
  | _ => false

/-- The tag that a record command names, with whether its other arguments have a meaning (R35 steps 1 and 2), where its
body fits. -/
def Instr.naming : Instr → Option (BitVec 16 × Bool)
  | .amend _ (.fits f) => some (f.tag, decide (f.due.toNat ≤ 99999))
  | .bind _ (.fits f) => if f.point = 1#8 ∨ f.point = 2#8 then some (f.tag, true) else none
  | .unbind _ (.fits f) => some (f.tag, true)
  | .handover _ (.fits f) => if f.point = 1#8 ∨ f.point = 2#8 then some (f.tag, true) else none
  | .voidRecord _ (.fits f) => some (f.tag, true)
  | .closeShort _ (.fits f) => some (f.tag, true)
  | .retire _ (.fits f) => some (f.tag, true)
  | .settle _ (.fits f) => some (f.tag, true)
  | .pay _ (.fits f) => some (f.tag, true)
  | .queryRecord _ (.fits f) =>
    if f.part = 2#8 then some (f.tag, decide (f.first.toNat ≤ 11))
    else if f.part = 1#8 ∨ f.part = 3#8 then some (f.tag, decide (f.first = 0#8)) else none
  | _ => none

end Sys2Proof
end

