-- ==== Sys2Proof/WellFormed.lean ====
section
/-! DEFINITION. Which commands can arise: the operands that the frames, replies and messages of R210 can carry and that
R184, R136, R142 and R148 allow the row. -/

namespace Sys2Proof

open Sys2Proof.Machine

/-- R135, R136: a reply that counts names a station 1 to 12. -/
def stationFits (station : BitVec 4) : Bool := (replyStation station).isSome

/-- R205: a reset's own cause stands by itself; the operand lists the other causes. -/
def Instr.wellFormed : Instr → Bool
  | .openRecord _ _ | .amend _ _ | .bind _ _ | .unbind _ _ | .handover _ _ | .voidRecord _ _ | .closeShort _ _
  | .retire _ _ | .queryRecord _ _ | .listRecords _ _ | .settle _ _ | .pay _ _ | .abort _ _ | .skim _ _ | .skimTo _ _
  | .testEject _ _ | .queryPoint _ _ | .clearUnclaimed _ _ | .floatBegin _ _ | .floatEnd _ _ | .queryStore _ _
  | .disable _ _ | .enable _ _ | .setStore _ _ | .refillBegin _ _ | .refillEnd _ _ | .refillCancel _ _
  | .queryCashbox _ _ | .readFault _ _ | .clearFault _ _ | .readEvents _ _ | .clearEvents _ _ | .setMask _ _
  | .setPoint _ _ | .setSystem _ _ | .saveSetup _ _ _ | .readCause _ _ | .resetCommand _ _ | .asPoint _ _
  | .quiet _ _ => true
  -- R186, R190: a kind and code that have no meaning
  | .unknown _ kind code => !knownFrame kind code
  | .check _ _ => true
  -- R184: a length byte above 40
  | .lengthSilence _ length => decide (40 < length.toNat)
  | .interByteGap _ | .frameWhileReplyOwed _ | .replySent _ => true
  | .power together _ _ => !together.power
  | .brownout together _ _ => !together.brownout
  | .pin _ _ | .link _ _ | .moduleSettleWait | .endOfStartUp => true
  -- R27: a tag is 1 to 65,535
  | .lapse tag => decide (tag ≠ 0#16)
  | .cashboxPresence _ | .accepted _ _ _ => true
  -- R210: the counts of an IDENT are one byte each
  | .ident _ recognised held => decide (recognised.length ≤ 255 ∧ held.length ≤ 255)
  | .maskHeld _ _ | .acceptorBadCheck _ | .maskUpdate _ | .silent _ | .noIdent _ | .identify _ | .busGrant | .replyWait
  | .noReply => true
  | .badOp station | .divert station _ | .divertFill station _ | .eject station _ | .result station _
  | .status station _ _ _ _ | .tally station _ _ | .band station _ | .clearAttn station | .window station
  | .stageOn station | .stageOff station | .fillOpen station _ | .ejectReconciliation station _ => stationFits station
  | .resultReask _ | .resultDeadline _ | .deferredBandRead _ => true
  -- R142: the fill tally stops at 2,000
  | .fillClose station f => stationFits station && decide (f.toNat ≤ 2000)
  | .attentionPoll => true
  -- R148: twelve reply slots
  | .attentionMap slots => decide (slots.length = 12)

end Sys2Proof
end

