-- ==== Sys2Proof/Certificates/Slice0/Obligations.lean ====
section
/-! DEFINITION. The statements for the provers. -/

open Sys2Proof Sys2Proof.Machine

/-! ## The queue and the step -/

/-- A step with a command at the front of the queue is that command's meaning on the state with the queue's rest; on an
empty queue it is a tick of the time count and nothing else (the model's choice, log 12). -/
def Obligations.StepRunsTheFrontCommand : Prop :=
  (∀ (c : Instr) (rest : List Instr) (s : State), s.pending = c :: rest → step s = exec c (s.setPending rest))
    ∧ ∀ s : State, s.pending = [] → ∃ t, step s = .next t ∧ t.time = s.time + 1#32 ∧ Frame [.time] s t

/-- Every command on every state ends in a next state: no meaning faults or refuses. None of them touches the queue. -/
def Obligations.EveryCommandCompletes : Prop :=
  ∀ (c : Instr) (s : State), ∃ t, exec c s = .next t ∧ t.pending = s.pending

/-! ## What every step keeps -/

/-- R6, R5, R3: the level flags follow from count and thresholds, the threshold chain is in order, and count stays
within capacity, whatever the step; the eject window too stays within its range. -/
def Obligations.StepKeepsLevelsAndChains : Prop :=
  ∀ s t : State, s.levelsAgree → s.chainsOrdered → step s = .next t → t.levelsAgree ∧ t.chainsOrdered

/-- R160, R162: the cashbox monitor's state is the one its figures give, whatever the step. -/
def Obligations.StepKeepsTheBoxState : Prop :=
  ∀ s t : State, s.boxAgrees → step s = .next t → t.boxAgrees

/-- R204: count memory is written with every change of what it holds, so after any step its newer good copy holds the
running figures. -/
def Obligations.StepKeepsCountMemory : Prop :=
  ∀ s t : State, s.countsKept → step s = .next t → t.countsKept

/-- R92, R93: after any step every accept mask is the one R92 forms, and a line that is UP has been sent it. -/
def Obligations.StepKeepsTheMasks : Prop :=
  ∀ s t : State, s.masksFormed → step s = .next t → t.masksFormed

/-- R3, R25, R27, R71: with count within capacity (which every step keeps), every step keeps tags distinct, lists
formed and absent outside SETTLED and PAYING, each engine's record in PAYING, and every store's reserved equal to what
the lists hold there and within its count. R20 to R22: with that, every step keeps each store's waiting list free of
repeats, the holder and the engines on the list at the store with that grant, and an engine without a grant free of
ejects, awaited band reads and exchanges. -/
def Obligations.StepKeepsThePool : Prop :=
  (∀ s t : State, s.poolAgrees → s.chainsOrdered → step s = .next t → t.poolAgrees)
    ∧ ∀ s t : State, s.poolAgrees → s.arbitersSound → step s = .next t → t.arbitersSound

/-- R99: after any step, credits wait unapplied only at a point bound to a record in PAYING, or during start-up. -/
def Obligations.StepKeepsCreditsSettled : Prop :=
  ∀ s t : State, s.creditsSettled → step s = .next t → t.creditsSettled

/-- The state after reset meets every invariant above, and a POWER reset of it with sound memories gives it again
(log 2). -/
def Obligations.ResetMeetsTheInvariants : Prop :=
  State.reset.levelsAgree ∧ State.reset.chainsOrdered ∧ State.reset.boxAgrees ∧ State.reset.countsKept
    ∧ State.reset.masksFormed ∧ State.reset.poolAgrees ∧ State.reset.creditsSettled ∧ State.reset.arbitersSound
    ∧ exec (.power ⟨false, false, false, false⟩ .inPlace ⟨false, false, false⟩) State.reset = .next State.reset

/-! ## Tender records (02) -/

/-- R37, R36, R25: OPEN of a tag of 0 is refused with RANGE and of a live tag with DUPLICATE, and nothing but the reply
changes; with a free slot, it makes a fresh record in the lowest free slot. -/
def Obligations.OpenTakesTheLowestFreeSlot : Prop :=
  ∀ (s : State) (p : PortId) (f : OpenFields) (kind : RecKind) (i : Slot),
    s.ready p .openRecord →
    ((recKindOf f.kind = some kind → f.tag = 0#16 →
      ∃ t, exec (.openRecord p (.fits f)) s = .next t ∧ Answered s t p .openRecord .range [] ∧ Frame [.ports, .free] s t)
    ∧ (recKindOf f.kind = some kind → f.tag ≠ 0#16 → f.due.toNat ≤ 99999 →
      (s.findTag f.tag.toNat).isSome = true →
      ∃ t, exec (.openRecord p (.fits f)) s = .next t ∧ Answered s t p .openRecord .duplicate []
        ∧ Frame [.ports, .free] s t)
    ∧ (recKindOf f.kind = some kind → f.tag ≠ 0#16 → f.due.toNat ≤ 99999 →
    (∀ j r, s.slot j = some r → r.tag ≠ f.tag.toNat) → s.slot i = none → (∀ j, j < i → s.slot j ≠ none) →
    ∃ t, exec (.openRecord p (.fits f)) s = .next t
      ∧ t.slot i = some
          { tag := f.tag.toNat, kind := kind, state := .opened, due := f.due.toNat, tendered := 0, excess := 0,
            owed := owedOf s.system.unit kind f.due.toNat 0, paid := 0, planned := none, delivered := none, list := [],
            shortfall := none, pinned := false, settledFrom := none, openedAt := s.time, stateSince := s.time,
            lapseAt := none, listChange := 0 }
      ∧ OtherSlots i s t ∧ Answered s t p .openRecord .done (BitVec.ofNat 8 (i.val + 1) :: [0#8, 0#8])
      ∧ Frame [.records, .ports, .free] s t))

/-- R38: OPEN in a full table takes the slot of the final record whose state since is oldest, the lower slot in a tie;
its point becomes unbound and RECORD-RECLAIMED is latched. With no final record the reply is FULL. -/
def Obligations.OpenReclaimsTheOldestFinalRecord : Prop :=
  ∀ (s : State) (p : PortId) (f : OpenFields) (kind : RecKind) (i : Slot) (old : Rec),
    s.ready p .openRecord → recKindOf f.kind = some kind → f.tag ≠ 0#16 → f.due.toNat ≤ 99999 →
    (∀ j r, s.slot j = some r → r.tag ≠ f.tag.toNat) → (∀ j, s.slot j ≠ none) →
    (((∀ j q, s.slot j = some q → q.state ≠ .paid ∧ q.state ≠ .void) →
      ∃ t, exec (.openRecord p (.fits f)) s = .next t ∧ Answered s t p .openRecord .full [] ∧ Frame [.ports, .free] s t)
    ∧ (s.slot i = some old → (old.state = .paid ∨ old.state = .void) →
    (∀ j q, s.slot j = some q → (q.state = .paid ∨ q.state = .void) → j ≠ i →
      age s.time q.stateSince < age s.time old.stateSince
        ∨ (age s.time q.stateSince = age s.time old.stateSince ∧ i < j)) →
    (∀ q, s.pointOf old.tag = some q → (s.point q).queueSettled) →
    ∃ t, exec (.openRecord p (.fits f)) s = .next t
      ∧ t.slot i = some
          { tag := f.tag.toNat, kind := kind, state := .opened, due := f.due.toNat, tendered := 0, excess := 0,
            owed := owedOf s.system.unit kind f.due.toNat 0, paid := 0, planned := none, delivered := none, list := [],
            shortfall := none, pinned := false, settledFrom := none, openedAt := s.time, stateSince := s.time,
            lapseAt := none, listChange := 0 }
      ∧ OtherSlots i s t
      ∧ (∀ q, (t.point q).core
          = if s.pointOf old.tag = some q then { (s.point q).core with binding := .none } else (s.point q).core)
      ∧ AnsweredLatching s t p .openRecord .done (BitVec.ofNat 8 (i.val + 1) :: bytesOf 2 old.tag) .recordReclaimed
      ∧ Frame [.records, .points, .ports, .free] s t))

/-- R35 steps 1 to 3: a record command whose body fits and whose tag is 0 or whose arguments are out of range is
refused with RANGE, one whose tag is not live with NO-RECORD, and one that would change a record in PAYING with BUSY
(RETIRE refuses it with STATE, log 26, and QUERY-RECORD reads it); nothing but the reply changes. -/
def Obligations.RecordCommandsNeedALiveRecord : Prop :=
  ∀ (c : Instr) (p : PortId) (k : Cmd) (tag : BitVec 16) (argumentsFit : Bool) (s : State) (i : Slot) (r : Rec),
    c.command = some (p, k) → c.naming = some (tag, argumentsFit) → s.ready p k →
    ((tag = 0#16 ∨ argumentsFit = false) →
      ∃ t, exec c s = .next t ∧ Answered s t p k .range [] ∧ Frame [.ports, .free] s t)
    ∧ (tag ≠ 0#16 → argumentsFit = true → (∀ i r, s.slot i = some r → r.tag ≠ tag.toNat) →
      ∃ t, exec c s = .next t ∧ Answered s t p k .noRecord [] ∧ Frame [.ports, .free] s t)
    ∧ (argumentsFit = true → s.holds tag i r → r.state = .paying → k ≠ .retire → k ≠ .queryRecord →
      ∃ t, exec c s = .next t ∧ Answered s t p k .busy [] ∧ Frame [.ports, .free] s t)

/-- R39: AMEND sets due, recomputes owed and clears the SHORT mark; a SETTLED record loses its reservation and goes to
TENDERING if bound, else OPEN. The reply carries owed, or the balance due. It is refused with BUSY in PAYING, STATE in
PAID and VOID, and HAS-CASH where a SALE record has paid change and due would pass tendered. -/
def Obligations.AmendSetsDue : Prop :=
  ∀ (s : State) (p : PortId) (f : AmendFields) (i : Slot) (r : Rec),
    s.ready p .amend → s.holds f.tag i r → f.due.toNat ≤ 99999 → r.listFormed →
    ((r.state = .paying →
      ∃ t, exec (.amend p (.fits f)) s = .next t ∧ Answered s t p .amend .busy [] ∧ Frame [.ports, .free] s t)
    ∧ ((r.state = .paid ∨ r.state = .void) →
      ∃ t, exec (.amend p (.fits f)) s = .next t ∧ Answered s t p .amend .state [] ∧ Frame [.ports, .free] s t)
    ∧ (r.state ≠ .paying → r.state ≠ .paid → r.state ≠ .void →
      ((r.kind = .sale ∧ 0 < r.paid ∧ r.tendered < f.due.toNat) →
        ∃ t, exec (.amend p (.fits f)) s = .next t ∧ Answered s t p .amend .hasCash [] ∧ Frame [.ports, .free] s t)
      ∧ (¬(r.kind = .sale ∧ 0 < r.paid ∧ r.tendered < f.due.toNat) →
        ∃ t, exec (.amend p (.fits f)) s = .next t
          ∧ t.slot i = some
              { (if r.state = .settled then
                  { r with
                    list := [], listChange := if r.list = [] then r.listChange else r.listChange + 1#8
                    pinned := false, planned := none, delivered := none, lapseAt := none, settledFrom := none
                    stateSince := s.time, state := if (s.pointOf r.tag).isSome then .tendering else .opened }
                 else r) with
                due := f.due.toNat, owed := owedOf s.system.unit r.kind f.due.toNat r.tendered, shortfall := none }
          ∧ OtherSlots i s t ∧ Released (if r.state = .settled then r.list else []) s t
          ∧ Answered s t p .amend .done
              (match owedOf s.system.unit r.kind f.due.toNat r.tendered with
                | some owed => 1#8 :: bytesOf 3 owed
                | none => 0#8 :: bytesOf 3 (f.due.toNat - r.tendered))
          ∧ Frame [.records, .stores, .ports, .free] s t)))

/-- R40: BIND of a record without a point to a free point. A SALE record takes the point's unclaimed credit as one
credit, which releases a reservation and leaves the record in TENDERING; the reply carries its value. A record bound to
the named point already, in any state but PAYING and VOID, is answered DONE with no change; in PAYING BIND is refused with
BUSY, in PAID elsewhere and in VOID with STATE, and with the record or the named point bound otherwise with POINT. -/
def Obligations.BindJoinsRecordAndPoint : Prop :=
  ∀ (s : State) (p : PortId) (f : TagPointFields) (q : PointId) (i : Slot) (r : Rec),
    s.ready p .bind → s.holds f.tag i r → Sys2Proof.Machine.pointOf f.point = some q →
    ((r.state = .paying →
      ∃ t, exec (.bind p (.fits f)) s = .next t ∧ Answered s t p .bind .busy [] ∧ Frame [.ports, .free] s t)
    ∧ (r.state ≠ .paying → r.state ≠ .void → s.pointOf r.tag = some q →
      ∃ t, exec (.bind p (.fits f)) s = .next t ∧ Answered s t p .bind .done [0#8, 0#8, 0#8]
        ∧ Frame [.ports, .free] s t)
    ∧ ((r.state = .paid ∨ r.state = .void) → s.pointOf r.tag ≠ some q →
      ∃ t, exec (.bind p (.fits f)) s = .next t ∧ Answered s t p .bind .state [] ∧ Frame [.ports, .free] s t)
    ∧ (r.state ≠ .paying → r.state ≠ .paid → r.state ≠ .void → s.pointOf r.tag ≠ some q →
      ((s.pointOf r.tag).isSome = true ∨ (s.point q).binding ≠ .none) →
      ∃ t, exec (.bind p (.fits f)) s = .next t ∧ Answered s t p .bind .point [] ∧ Frame [.ports, .free] s t)
    ∧ (r.listFormed → (r.state = .opened ∨ r.state = .settled ∨ r.state = .partPaid ∨ r.state = .interrupted) →
    s.pointOf r.tag = none → (s.point q).binding = .none → (s.point q).queueSettled →
    (((r.kind = .refund ∨ (s.point q).unclaimed = 0) →
      ∃ t, exec (.bind p (.fits f)) s = .next t
        ∧ t.slot i = some
            (if r.state = .opened then
              { r with
                state := .tendering, stateSince := s.time, planned := none, delivered := none, lapseAt := none
                settledFrom := none }
             else r)
        ∧ OtherSlots i s t ∧ (t.point q).core = { (s.point q).core with binding := .record r.tag } ∧ OtherPoint q s t
        ∧ Answered s t p .bind .done [0#8, 0#8, 0#8] ∧ Frame [.records, .points, .ports, .free] s t)
    ∧ ((r.kind = .sale ∧ 0 < (s.point q).unclaimed) →
      ∃ t, exec (.bind p (.fits f)) s = .next t
        ∧ t.slot i = some
            { r with
              state := .tendering, stateSince := s.time, list := [], planned := none, delivered := none, lapseAt := none
              settledFrom := none, shortfall := none
              listChange := if r.list = [] then r.listChange else r.listChange + 1#8
              pinned := if r.state = .settled then false else r.pinned
              tendered := min (r.tendered + (s.point q).unclaimed) 99999
              excess := min (r.excess + (r.tendered + (s.point q).unclaimed - 99999)) 99999
              owed := owedOf s.system.unit .sale r.due (min (r.tendered + (s.point q).unclaimed) 99999) }
        ∧ OtherSlots i s t ∧ Released (if r.state = .settled then r.list else []) s t
        ∧ (t.point q).core = { (s.point q).core with binding := .record r.tag, unclaimed := 0 } ∧ OtherPoint q s t
        ∧ Answered s t p .bind .done (bytesOf 3 (s.point q).unclaimed)
        ∧ Frame [.records, .stores, .points, .ports, .free] s t))))

/-- R41, R42: UNBIND frees the record's point; TENDERING goes to OPEN and other states are kept; without a point
nothing changes. HANDOVER moves a binding from the record's point to a free named point, and the record stays as it
is; at the named point already nothing changes; in VOID the reply is STATE; with the named point taken it is POINT, and
without a point too: that a record in OPEN, which has none, is answered POINT and not STATE is the model's reading (log 25). -/
def Obligations.UnbindAndHandoverMoveTheBinding : Prop :=
  ∀ (s : State) (p : PortId) (f : TagPointFields) (q : PointId) (i : Slot) (r : Rec),
    s.holds f.tag i r → r.state ≠ .paying → Sys2Proof.Machine.pointOf f.point = some q →
    ((s.ready p .unbind →
      (s.pointOf r.tag = none →
        ∃ t, exec (.unbind p (.fits ⟨f.tag⟩)) s = .next t ∧ Answered s t p .unbind .done []
          ∧ Frame [.ports, .free] s t)
      ∧ ∀ old, s.pointOf r.tag = some old → (s.point old).queueSettled →
        ∃ t, exec (.unbind p (.fits ⟨f.tag⟩)) s = .next t
          ∧ t.slot i = some
              (if r.state = .tendering then
                { r with
                  state := .opened, stateSince := s.time, planned := none, delivered := none, lapseAt := none
                  settledFrom := none }
               else r)
          ∧ OtherSlots i s t ∧ (t.point old).core = { (s.point old).core with binding := .none } ∧ OtherPoint old s t
          ∧ Answered s t p .unbind .done [] ∧ Frame [.records, .points, .ports, .free] s t)
    ∧ (s.ready p .handover → r.state = .void →
      ∃ t, exec (.handover p (.fits f)) s = .next t ∧ Answered s t p .handover .state [] ∧ Frame [.ports, .free] s t)
    ∧ (s.ready p .handover → r.state ≠ .void →
      (s.pointOf r.tag = some q →
        ∃ t, exec (.handover p (.fits f)) s = .next t ∧ Answered s t p .handover .done [] ∧ Frame [.ports, .free] s t)
      ∧ ((s.pointOf r.tag = none ∨ (s.pointOf r.tag ≠ some q ∧ (s.point q).binding ≠ .none)) →
        ∃ t, exec (.handover p (.fits f)) s = .next t ∧ Answered s t p .handover .point [] ∧ Frame [.ports, .free] s t)
      ∧ ∀ old, s.pointOf r.tag = some old → old ≠ q → (s.point q).binding = .none →
        (s.point q).queueSettled → (s.point old).queueSettled →
        ∃ t, exec (.handover p (.fits f)) s = .next t
          ∧ (t.point old).core = { (s.point old).core with binding := .none }
          ∧ (t.point q).core = { (s.point q).core with binding := .record r.tag }
          ∧ Answered s t p .handover .done [] ∧ Frame [.points, .ports, .free] s t))

/-- R44: VOID of a record that never handled money: its reservation is released, its point becomes unbound, and it goes
to VOID; the point's accept mask is then empty. With money in or out the reply is HAS-CASH, in PAYING BUSY and in PAID
STATE; a VOID record is answered DONE and stays as it is. -/
def Obligations.VoidEndsAnEmptyRecord : Prop :=
  ∀ (s : State) (p : PortId) (f : TagFields) (i : Slot) (r : Rec),
    s.ready p .voidRecord → s.holds f.tag i r → r.listFormed →
    (∀ q, s.pointOf r.tag = some q → (s.point q).queueSettled) →
    (r.state = .paying →
      ∃ t, exec (.voidRecord p (.fits f)) s = .next t ∧ Answered s t p .voidRecord .busy [] ∧ Frame [.ports, .free] s t)
    ∧ (r.state = .paid →
      ∃ t, exec (.voidRecord p (.fits f)) s = .next t ∧ Answered s t p .voidRecord .state []
        ∧ Frame [.ports, .free] s t)
    ∧ (r.state = .void →
      ∃ t, exec (.voidRecord p (.fits f)) s = .next t ∧ Answered s t p .voidRecord .done [] ∧ Frame [.ports, .free] s t)
    ∧ (r.state ≠ .paying → r.state ≠ .paid → r.state ≠ .void → (0 < r.tendered ∨ 0 < r.paid) →
      ∃ t, exec (.voidRecord p (.fits f)) s = .next t ∧ Answered s t p .voidRecord .hasCash []
        ∧ Frame [.ports, .free] s t)
    ∧ (r.state ≠ .paying → r.state ≠ .paid → r.state ≠ .void → r.tendered = 0 → r.paid = 0 →
      ∃ t, exec (.voidRecord p (.fits f)) s = .next t
        ∧ t.slot i = some
            { r with
              state := .void, stateSince := s.time, list := [], pinned := false, planned := none, delivered := none
              lapseAt := none, settledFrom := none
              listChange := if r.list = [] then r.listChange else r.listChange + 1#8 }
        ∧ OtherSlots i s t ∧ Released r.list s t
        ∧ (∀ q, (t.point q).core
            = if s.pointOf r.tag = some q then { (s.point q).core with binding := .none } else (s.point q).core)
        ∧ (∀ q, s.pointOf r.tag = some q → (t.point q).mask = [])
        ∧ Answered s t p .voidRecord .done [] ∧ Frame [.records, .stores, .points, .ports, .free] s t)

/-- R45: CLOSE-SHORT takes a record with owed to PAID, with its remaining as the shortfall and its point kept; for a
SALE record without owed the reply is SHORT-TENDER with the balance due. In PAYING the reply is BUSY, and in SETTLED,
PAID and VOID it is STATE. -/
def Obligations.CloseShortEndsWithTheRemaining : Prop :=
  ∀ (s : State) (p : PortId) (f : TagFields) (i : Slot) (r : Rec),
    s.ready p .closeShort → s.holds f.tag i r →
    ((r.state = .paying →
      ∃ t, exec (.closeShort p (.fits f)) s = .next t ∧ Answered s t p .closeShort .busy [] ∧ Frame [.ports, .free] s t)
    ∧ ((r.state = .settled ∨ r.state = .paid ∨ r.state = .void) →
      ∃ t, exec (.closeShort p (.fits f)) s = .next t ∧ Answered s t p .closeShort .state []
        ∧ Frame [.ports, .free] s t)
    ∧ ((r.state = .opened ∨ r.state = .tendering ∨ r.state = .partPaid ∨ r.state = .interrupted) →
      (r.owed = none → r.kind = .sale →
        ∃ t, exec (.closeShort p (.fits f)) s = .next t
          ∧ Answered s t p .closeShort .shortTender (bytesOf 3 (r.due - r.tendered))
          ∧ Frame [.ports, .free] s t)
      ∧ ∀ owed, r.owed = some owed →
        ∃ t, exec (.closeShort p (.fits f)) s = .next t
          ∧ t.slot i = some
              { r with
                state := .paid, stateSince := s.time, planned := none, delivered := none, lapseAt := none
                settledFrom := none, shortfall := if owed - r.paid = 0 then none else some (owed - r.paid) }
          ∧ OtherSlots i s t ∧ Answered s t p .closeShort .done (bytesOf 3 (owed - r.paid))
          ∧ Frame [.records, .ports, .free] s t))

/-- R46: RETIRE frees the slot of a PAID or VOID record and unbinds its point, whose accept mask is then empty; in
every other state the reply is STATE (PAYING among them, log 26). -/
def Obligations.RetireFreesTheSlot : Prop :=
  ∀ (s : State) (p : PortId) (f : TagFields) (i : Slot) (r : Rec),
    s.ready p .retire → s.holds f.tag i r → (∀ q, s.pointOf r.tag = some q → (s.point q).queueSettled) →
    ((r.state ≠ .paid → r.state ≠ .void →
      ∃ t, exec (.retire p (.fits f)) s = .next t ∧ Answered s t p .retire .state [] ∧ Frame [.ports, .free] s t)
    ∧ ((r.state = .paid ∨ r.state = .void) →
      ∃ t, exec (.retire p (.fits f)) s = .next t ∧ t.slot i = none ∧ OtherSlots i s t
        ∧ (∀ q, (t.point q).core
            = if s.pointOf r.tag = some q then { (s.point q).core with binding := .none } else (s.point q).core)
        ∧ (∀ q, s.pointOf r.tag = some q → (t.point q).mask = [])
        ∧ Answered s t p .retire .done [] ∧ Frame [.records, .points, .ports, .free] s t))

/-! ## Change planning and reservations (03, 04) -/

/-- R51: the rounding of a value to the unit: itself on a multiple, the nearer multiple between two, the higher on a
tie, and the lower where the higher is above 99,999. owed is it of tendered - due for a SALE record whose tendered is at
least its due, and of due for a REFUND record. -/
def Obligations.RoundingTakesTheNearerMultiple : Prop :=
  (∀ u v : Nat, (u = 1 ∨ u = 2 ∨ u = 5 ∨ u = 10) → v ≤ 99999 →
    (v % u = 0 → roundTo u v = v)
    ∧ (0 < v % u → 2 * (v % u) < u → roundTo u v = v - v % u)
    ∧ (0 < v % u → u ≤ 2 * (v % u) → v - v % u + u ≤ 99999 → roundTo u v = v - v % u + u)
    ∧ (0 < v % u → u ≤ 2 * (v % u) → 99999 < v - v % u + u → roundTo u v = v - v % u))
  ∧ ∀ u due tendered : Nat,
    (due ≤ tendered → owedOf u .sale due tendered = some (roundTo u (tendered - due)))
    ∧ owedOf u .refund due tendered = some (roundTo u due)

/-- R57, R56: the denominations planned over stand from the largest to the smallest, and the search finds the
admissible split that is lexicographically greatest from the first denomination on, and finds none only where no split
is admissible. -/
def Obligations.SearchFindsTheGreatestSplit : Prop :=
  (∀ os : List Offer, ((measures os).map Prod.fst).Pairwise (fun d e => e < d))
  ∧ ∀ (available : List (Nat × Nat)) (limit target : Nat), (∀ x ∈ available, 0 < x.1) →
    (chosenSplit available limit target = none → ∀ ns, ¬Admissible available limit target ns)
    ∧ ∀ chosen, chosenSplit available limit target = some chosen →
      Admissible available limit target chosen
        ∧ ∀ ns, Admissible available limit target ns → ns = chosen ∨ List.Lex (· < ·) ns chosen

/-- R62, R55, R56: a plan is worth its target, keeps to the items limit, takes from each usable store that the request
does not exclude no more than its availability with the record's own items there, names each store once with at least
one item, has at most 12 entries and, for a target above 0, at least one item, and is ordered by denomination downward
and station upward. R61: each item is taken from the store of its denomination with the most availability left, the
lower station in a tie, so that the last item taken from one store finds no other store of the denomination with more
than it, nor a lower one with as much. -/
def Obligations.PlansAreMadeOfWhatIsFree : Prop :=
  ∀ (s : State) (pass : Pass) (excluded : BitVec 12) (own : Station → Nat) (limit target : Nat) (list : List Entry),
    planOf (s.offers pass excluded own) limit target = some list →
    s.listValue list = target ∧ listItems list ≤ limit ∧ list.length ≤ 12 ∧ (0 < target → 0 < listItems list)
      ∧ (list.map Entry.station).Nodup
      ∧ (∀ en ∈ list, 0 < en.items ∧ (s.store en.station).usable = true ∧ excluded.getLsbD en.station.val = false
          ∧ en.items ≤ (s.store en.station).available pass + own en.station)
      ∧ list.Pairwise (fun a b =>
          (s.store b.station).cfg.denomination < (s.store a.station).cfg.denomination
            ∨ ((s.store a.station).cfg.denomination = (s.store b.station).cfg.denomination ∧ a.station < b.station))
      ∧ ∀ a b, 0 < itemsAt list a → b ≠ a → (s.store b).usable = true → excluded.getLsbD b.val = false →
          (s.store b).cfg.denomination = (s.store a).cfg.denomination →
          (s.store b).available pass + own b - itemsAt list b < (s.store a).available pass + own a - itemsAt list a + 1
            ∨ ((s.store b).available pass + own b - itemsAt list b
                = (s.store a).available pass + own a - itemsAt list a + 1 ∧ a < b)

/-- R60: the short plan's amount is the largest amount above 0 and below the target for which a plan exists. -/
def Obligations.ShortPlansAreTheLargestBelow : Prop :=
  ∀ (os : List Offer) (limit target : Nat),
    (largestBelow os limit target = none → ∀ n, 0 < n → n < target → planOf os limit n = none)
    ∧ ∀ n list, largestBelow os limit target = some (n, list) →
      0 < n ∧ n < target ∧ planOf os limit n = some list ∧ ∀ m, n < m → m < target → planOf os limit m = none

/-- R82, R83, R85: a borrowing is from another SETTLED record that is not pinned; its trial replans the borrower to the
target and the lender to the value it had planned, each within its items limit. The candidates are tried from the oldest
state since on, the lower slot first in a tie, so every one before the lender has failed its trial, and borrowing yields
nothing only where every trial fails. -/
def Obligations.BorrowingKeepsTheLendersValue : Prop :=
  ∀ (s : State) (i : Slot) (x : Rec) (target : Nat) (j : Slot) (y : Rec) (forX forY : List Entry),
    (s.borrowFrom x target 24 (s.lenders i) = none →
      s.slot j = some y → j ≠ i → y.state = .settled → y.pinned = false → s.trial x target y = none)
    ∧ (s.borrowFrom x target 24 (s.lenders i) = some (j, y, forX, forY) →
      s.slot j = some y ∧ j ≠ i ∧ y.state = .settled ∧ y.pinned = false
        ∧ s.listValue forX = target ∧ s.listValue forY = y.planned.getD 0
        ∧ listItems forX ≤ s.itemsLimit x.tag ∧ listItems forY ≤ s.itemsLimit y.tag
        ∧ s.trial x target y = some (forX, forY)
        ∧ ∀ k z, s.slot k = some z → k ≠ i → k ≠ j → z.state = .settled → z.pinned = false → Later s.time j y k z →
            s.trial x target z = none)

/-- R64: SETTLE of a SALE record with remaining 0 takes it to PAID without a plan, releasing a reservation it has; it
keeps its point, whose accept mask is then empty. -/
def Obligations.SettleOfNothingPays : Prop :=
  ∀ (s : State) (p : PortId) (f : TagFields) (i : Slot) (r : Rec),
    s.ready p .settle → s.holds f.tag i r → r.listFormed → r.kind = .sale → r.owed.isSome = true → r.owed.getD 0 ≤ r.paid →
    r.state ≠ .paying → r.state ≠ .paid → r.state ≠ .void →
    ∃ t, exec (.settle p (.fits f)) s = .next t
      ∧ t.slot i = some
          { r with
            state := .paid, stateSince := s.time, list := [], pinned := false, planned := none, delivered := none
            lapseAt := none, settledFrom := none, shortfall := none
            listChange := if r.list = [] then r.listChange else r.listChange + 1#8 }
      ∧ OtherSlots i s t ∧ Released r.list s t ∧ Answered s t p .settle .done (s.settleReply 3 0 0 0 0 none [])
      ∧ (∀ q, s.pointOf r.tag = some q → (t.point q).mask = [])
      ∧ Frame [.records, .stores, .ports, .free] s t

/-- R52, R63: SETTLE of a SALE record with tendered below due is refused with SHORT-TENDER and the balance due, and of a
REFUND record with remaining 0, or of a record in PAID or VOID, with STATE. R59, R60, R65, R66: with a positive remaining
it commits the plan of pass 1, else of pass 2, else, where no lender's trial succeeds, the largest short plan that the
binding permits; else it is refused with NO-CHANGE, the target and what could be paid. -/
def Obligations.SettleCommitsTheFirstPlan : Prop :=
  ∀ (s : State) (p : PortId) (f : TagFields) (i : Slot) (r : Rec) (target : Nat),
    s.ready p .settle → s.holds f.tag i r →
    (((r.state = .paid ∨ r.state = .void) →
      ∃ t, exec (.settle p (.fits f)) s = .next t ∧ Answered s t p .settle .state [] ∧ Frame [.ports, .free] s t)
    ∧ (r.state ≠ .paying → r.state ≠ .paid → r.state ≠ .void →
      (r.kind = .sale → r.owed = none →
        ∃ t, exec (.settle p (.fits f)) s = .next t
          ∧ Answered s t p .settle .shortTender (bytesOf 3 (r.due - r.tendered)) ∧ Frame [.ports, .free] s t)
      ∧ ∀ owed, r.owed = some owed → r.kind = .refund → owed ≤ r.paid →
        ∃ t, exec (.settle p (.fits f)) s = .next t ∧ Answered s t p .settle .state [] ∧ Frame [.ports, .free] s t)
    ∧ (r.listFormed → r.toSettle target →
    ((∀ list, planOf (s.offers .first 0 (itemsAt r.list)) (s.itemsLimit r.tag) target = some list →
      ∃ t, exec (.settle p (.fits f)) s = .next t ∧ Committed s t i r list none
        ∧ Answered s t p .settle .done
            (s.settleReply 1 1 target 0 0 (some (s.time + BitVec.ofNat 32 (s.system.hold * 100))) list))
    ∧ (planOf (s.offers .first 0 (itemsAt r.list)) (s.itemsLimit r.tag) target = none →
      ((∀ list, planOf (s.offers .second 0 (itemsAt r.list)) (s.itemsLimit r.tag) target = some list →
        ∃ t, exec (.settle p (.fits f)) s = .next t ∧ Committed s t i r list none
          ∧ Answered s t p .settle .done
              (s.settleReply 1 2 target 0 0 (some (s.time + BitVec.ofNat 32 (s.system.hold * 100))) list))
      ∧ (planOf (s.offers .second 0 (itemsAt r.list)) (s.itemsLimit r.tag) target = none →
        s.borrowFrom r target 24 (s.lenders i) = none →
        ((largestBelow (s.offers .second 0 (itemsAt r.list)) (s.itemsLimit r.tag) target = none →
          ∃ t, exec (.settle p (.fits f)) s = .next t ∧ Frame [.ports, .free] s t
            ∧ Answered s t p .settle .noChange (bytesOf 3 target ++ bytesOf 3 0))
        ∧ ∀ short, largestBelow (s.offers .second 0 (itemsAt r.list)) (s.itemsLimit r.tag) target = some short →
          (s.shortPermitted r.tag = false →
            ∃ t, exec (.settle p (.fits f)) s = .next t ∧ Frame [.ports, .free] s t
              ∧ Answered s t p .settle .noChange (bytesOf 3 target ++ bytesOf 3 short.1))
          ∧ (s.shortPermitted r.tag = true →
            ∃ t, exec (.settle p (.fits f)) s = .next t ∧ Committed s t i r short.2 (some (target - short.1))
              ∧ Answered s t p .settle .done
                  (s.settleReply 2 2 short.1 (target - short.1) 0
                    (some (s.time + BitVec.ofNat 32 (s.system.hold * 100))) short.2)))))))))

/-- R84: a borrowing committed: both old lists released and both new lists reserved, the borrower SETTLED as by an exact
plan, the lender pinned and otherwise as it was but for its list, and REPLANNED latched. -/
def Obligations.SettleBorrows : Prop :=
  ∀ (s : State) (p : PortId) (f : TagFields) (i : Slot) (r : Rec) (target : Nat) (j : Slot) (y : Rec)
    (lists : List Entry × List Entry),
    s.ready p .settle → s.holds f.tag i r → r.listFormed → y.listFormed → r.toSettle target →
    planOf (s.offers .first 0 (itemsAt r.list)) (s.itemsLimit r.tag) target = none →
    planOf (s.offers .second 0 (itemsAt r.list)) (s.itemsLimit r.tag) target = none →
    s.borrowFrom r target 24 (s.lenders i) = some (j, y, lists.1, lists.2) →
    ∃ t, exec (.settle p (.fits f)) s = .next t
      ∧ t.slot i = some
          { r with
            state := .settled, stateSince := s.time, list := lists.1, listChange := r.listChange + 1#8
            planned := some target, delivered := none, shortfall := none, pinned := false
            settledFrom :=
              (match r.state with
                | .settled => r.settledFrom
                | .partPaid => some .partPaid
                | .interrupted => some .interrupted
                | _ => some .new)
            lapseAt := some (s.time + BitVec.ofNat 32 (s.system.hold * 100)) }
      ∧ t.slot j = some { y with list := lists.2, listChange := y.listChange + 1#8, pinned := true }
      ∧ (∀ k, k ≠ i → k ≠ j → t.slot k = s.slot k)
      ∧ (∀ st, t.store st =
          { s.store st with
            reserved := (s.store st).reserved - itemsAt y.list st - itemsAt r.list st + itemsAt lists.1 st
              + itemsAt lists.2 st })
      ∧ Frame [.records, .stores, .ports, .free] s t
      ∧ AnsweredLatching s t p .settle .done
          (s.settleReply 1 3 target 0 y.tag (some (s.time + BitVec.ofNat 32 (s.system.hold * 100))) lists.1) .replanned

/-- R76, R78: at the lapse at of a SETTLED record its reservation is released, the record returns by its settled from,
and RESERVATION-LAPSED is latched; during start-up the lapse waits. The command carries the time count forward to the
moment (the model's choice, log 13). -/
def Obligations.LapseReturnsTheRecord : Prop :=
  ∀ (s : State) (tag : BitVec 16) (i : Slot) (r : Rec) (moment : Time),
    s.holds tag i r → r.listFormed → r.state = .settled → r.lapseAt = some moment →
    (s.startUp.ended = false →
      ∃ t, exec (.lapse tag) s = .next t ∧ t.slot i = s.slot i ∧ reached t.time moment = true ∧ Frame [.time] s t)
    ∧ (s.startUp.ended = true →
      ∃ t, exec (.lapse tag) s = .next t
        ∧ t.time = (if reached s.time moment = true then s.time else moment)
        ∧ t.slot i = some
            { r with
              list := [], listChange := if r.list = [] then r.listChange else r.listChange + 1#8
              pinned := false, planned := none, delivered := none, lapseAt := none, settledFrom := none
              stateSince := t.time
              state :=
                (match r.settledFrom with
                  | some .partPaid => .partPaid
                  | some .interrupted => .interrupted
                  | _ => if (s.pointOf r.tag).isSome then .tendering else .opened) }
        ∧ OtherSlots i s t ∧ Released r.list s t
        ∧ (∀ q, t.port q = (s.port q).latch .reservationLapsed false)
        ∧ Frame [.time, .records, .stores, .ports] s t)

/-! ## Tender intake (05) and the acceptor lines (09) -/

/-- R90, R97, R98, R180: an item report on an UP line is answered NOTED. One that repeats the number last noted adds
nothing; a new one is queued with its stamp, its credit waits only while the bound record is in PAYING, and its route
is asked for when no other is outstanding. With the queue full it goes to unclaimed credit with QUEUE-OVERRUN and is
owed a release, made at once when no route is outstanding. A denomination outside 1 to 50,000 is taken in as 0 and takes
the line LOST with BAD-REPORT; that a repeat's does so too (log 52), that an overrun item then waits for its release (log
55), and that one is appended to release owed though 255 wait there (log 79), are the model's choices. -/
def Obligations.AcceptedItemsAreNotedAndQueued : Prop :=
  ∀ (s : State) (p : PointId) (item : Byte) (d : BitVec 24),
    s.startUp.ended = true → (s.point p).line = .up → s.enginesQuiet → (s.point p).routesStarted → s.tagsDistinct →
    s.enginesPay →
    ((1 ≤ d.toNat → d.toNat ≤ 50000 →
      ((s.point p).lastNoted = some item →
      ∃ t, exec (.accepted p item d) s = .next t ∧ .noted item ∈ (t.point p).sent
        ∧ (t.point p).core = { (s.point p).core with watch := some s.time } ∧ OtherPoint p s t
        ∧ Frame [.points, .bus, .reconciler] s t)
    ∧ ((s.point p).lastNoted ≠ some item → (s.point p).queue.length < 16 → s.payingAt p →
      ∃ t, exec (.accepted p item d) s = .next t ∧ .noted item ∈ (t.point p).sent
        ∧ (t.point p).core
          = { (s.point p).core with
              lastNoted := some item, watch := some s.time
              queue :=
                ((s.point p).queue.dropWhile (fun c => c.route.isSome && c.applied)) ++ [⟨item, d.toNat, s.time, none, false⟩]
              routeOut := if (s.point p).routeOut = none then some item else (s.point p).routeOut }
        ∧ OtherPoint p s t ∧ Frame [.points, .bus, .reconciler] s t)
    ∧ ((s.point p).lastNoted ≠ some item → (s.point p).queue.length < 16 → ¬s.payingAt p → (s.point p).queueSettled →
      ∃ t, exec (.accepted p item d) s = .next t ∧ .noted item ∈ (t.point p).sent
        ∧ (t.point p).lastNoted = some item ∧ (t.point p).watch = some s.time
        ∧ (t.point p).queue = (s.point p).queue ++ [⟨item, d.toNat, s.time, none, true⟩]
        ∧ (t.point p).routeOut = (if (s.point p).routeOut = none then some item else (s.point p).routeOut)
        ∧ OtherPoint p s t ∧ t.cashbox = s.cashbox ∧ t.pointBanks = s.pointBanks ∧ t.engines = s.engines)
    ∧ ((s.point p).lastNoted ≠ some item → 16 ≤ (s.point p).queue.length →
      ((s.point p).routeOut ≠ none ∨ (s.engine .m).state ≠ .running
        ∨ (s.cashbox.presence = .inPlace ∧ s.cashbox.count + 1 < s.system.boxCapacity)) →
      ∃ t, exec (.accepted p item d) s = .next t ∧ .noted item ∈ (t.point p).sent
        ∧ (t.point p).lastNoted = some item ∧ (t.point p).watch = some s.time
        ∧ (t.point p).queue = (s.point p).queue ∧ (t.point p).binding = (s.point p).binding
        ∧ (t.point p).unclaimed = min ((s.point p).unclaimed + d.toNat) 99999
        ∧ t.pointBank p = (s.pointBank p).take (overrun s.time p d.toNat)
        ∧ (∀ q, (t.port q).latched &&& Event.pointFault.mask = Event.pointFault.mask)
        ∧ OtherPoint p s t ∧ (∀ j, t.slot j = s.slot j)
        ∧ ((s.point p).routeOut ≠ none →
          (t.point p).releaseOwed = (s.point p).releaseOwed ++ [(item, d.toNat)] ∧ t.cashbox = s.cashbox)
        ∧ ((s.point p).routeOut = none →
          (t.point p).releaseOwed = [] ∧ .release item ∈ (t.point p).sent
            ∧ (s.cashbox.state ≠ .removed → s.cashbox.count < 65535 → s.cashbox.value + d.toNat ≤ 9999999 →
              t.cashbox.count = s.cashbox.count + 1 ∧ t.cashbox.value = s.cashbox.value + d.toNat))))
    ∧ (d.toNat = 0 ∨ 50000 < d.toNat →
      ((s.point p).lastNoted = some item →
        ∃ t, exec (.accepted p item d) s = .next t ∧ .noted item ∈ (t.point p).sent
          ∧ LostByReport s t p (s.pointBank p) ∧ (t.point p).queue = (s.point p).queue)
      ∧ ((s.point p).lastNoted ≠ some item → (s.point p).queue.length < 16 →
        (s.payingAt p →
          ∃ t, exec (.accepted p item d) s = .next t ∧ .noted item ∈ (t.point p).sent
            ∧ LostByReport s t p (s.pointBank p) ∧ (t.point p).lastNoted = some item
            ∧ (t.point p).queue
              = ((s.point p).queue.dropWhile (fun c => c.route.isSome && c.applied)) ++ [⟨item, 0, s.time, none, false⟩])
        ∧ (¬s.payingAt p → (s.point p).queueSettled → (s.point p).unclaimed ≤ 99999 →
          ∃ t, exec (.accepted p item d) s = .next t ∧ .noted item ∈ (t.point p).sent
            ∧ LostByReport s t p (s.pointBank p) ∧ (t.point p).lastNoted = some item
            ∧ (t.point p).queue = (s.point p).queue ++ [⟨item, 0, s.time, none, true⟩]
            ∧ (t.point p).unclaimed = (s.point p).unclaimed))
      ∧ ((s.point p).lastNoted ≠ some item → 16 ≤ (s.point p).queue.length → (s.point p).unclaimed ≤ 99999 →
        ∃ t, exec (.accepted p item d) s = .next t ∧ .noted item ∈ (t.point p).sent
          ∧ LostByReport s t p ((s.pointBank p).take (overrun s.time p 0)) ∧ (t.point p).lastNoted = some item
          ∧ (t.point p).queue = (s.point p).queue ∧ (t.point p).unclaimed = (s.point p).unclaimed
          ∧ (t.point p).releaseOwed = (s.point p).releaseOwed ++ [(item, 0)] ∧ t.cashbox = s.cashbox)))

/-- R99, R100, R102: the credit of an accepted item goes to the point's unclaimed credit without a record or for a
REFUND record, to the float total in FLOAT, and to a SALE record outside PAYING, whose tendered and owed follow and
which goes to TENDERING from SETTLED, PART-PAID, INTERRUPTED and PAID. -/
def Obligations.CreditsFollowTheBinding : Prop :=
  ∀ (s : State) (p : PointId) (item : Byte) (d : BitVec 24) (i : Slot) (r : Rec),
    s.startUp.ended = true → (s.point p).line = .up → 1 ≤ d.toNat → d.toNat ≤ 50000 → s.enginesQuiet →
    (s.point p).lastNoted ≠ some item → (s.point p).queue.length < 16 → (s.point p).routesStarted →
    (s.point p).queueSettled → s.enginesPay →
    (((s.point p).binding = .none →
      ∃ t, exec (.accepted p item d) s = .next t ∧ (t.point p).unclaimed = min ((s.point p).unclaimed + d.toNat) 99999
        ∧ (t.point p).binding = .none
        ∧ (∀ q, t.port q = if (s.point p).unclaimed = 0 then (s.port q).latch .creditUnclaimed false else s.port q)
        ∧ OtherPoint p s t ∧ Frame [.points, .bus, .reconciler, .ports] s t)
    ∧ (∀ total, floatTotal (s.point p).binding = some total →
      ∃ t, exec (.accepted p item d) s = .next t ∧ (t.point p).binding = .float (min (total + d.toNat) 99999)
        ∧ (t.point p).unclaimed = (s.point p).unclaimed ∧ OtherPoint p s t ∧ Frame [.points, .bus, .reconciler] s t)
    ∧ (s.holds (BitVec.ofNat 16 r.tag) i r → r.listFormed → (s.point p).binding = .record r.tag →
      ((r.kind = .refund → r.state ≠ .paying →
        ∃ t, exec (.accepted p item d) s = .next t ∧ (t.point p).unclaimed = min ((s.point p).unclaimed + d.toNat) 99999
          ∧ OtherPoint p s t ∧ Frame [.points, .bus, .reconciler, .ports] s t)
      ∧ (r.kind = .sale → r.state ≠ .paying → r.state ≠ .void →
        ∃ t, exec (.accepted p item d) s = .next t
          ∧ t.slot i = some
              { (if r.state = .opened ∨ r.state = .tendering then r
                 else { r with
                    state := .tendering, stateSince := s.time, list := [], planned := none, delivered := none
                    lapseAt := none, settledFrom := none
                    listChange := if r.list = [] then r.listChange else r.listChange + 1#8
                    pinned := if r.state = .settled then false else r.pinned }) with
                tendered := min (r.tendered + d.toNat) 99999
                excess := min (r.excess + (r.tendered + d.toNat - 99999)) 99999
                owed := owedOf s.system.unit .sale r.due (min (r.tendered + d.toNat) 99999), shortfall := none }
          ∧ OtherSlots i s t ∧ Released (if r.state = .settled then r.list else []) s t
          ∧ (t.point p).unclaimed = (s.point p).unclaimed ∧ (t.point p).binding = .record r.tag
          ∧ OtherPoint p s t ∧ Frame [.records, .stores, .points, .bus, .reconciler] s t))))

/-- R91: a well-formed IDENT sets the recognised set and last noted, takes the line to UP and sends the mask. With
nothing held and nothing queued nothing else changes. A held item that matches no unrouted entry is taken in as new, in
the order of the held list, a denomination out of range as 0 (log 28); an unrouted entry that is not held goes to the
cashbox without a RELEASE, and leaves the queue once it is the head (log 60); the next entry is then routed. One that
is not well-formed is discarded. That a denomination listed twice counts and stands twice, and that a number held twice
is taken in twice (log 75), and that an entry that is not held goes to the cashbox at once though its DIVERT is in
progress (log 53), are the model's choices. -/
def Obligations.IdentBringsTheLineUp : Prop :=
  ∀ (s : State) (p : PointId) (recognised : List (BitVec 16)) (held : List (Byte × BitVec 16)),
    s.startUp.ended = true →
    (((∀ d ∈ recognised, 1 ≤ d.toNat ∧ d.toNat ≤ 50000) → 1 ≤ recognised.length → recognised.length ≤ 16 →
      (∃ t, exec (.ident p recognised held) s = .next t ∧ (t.point p).line = .up
        ∧ (t.point p).recognised = some (recognised.map BitVec.toNat)
        ∧ (t.point p).lastNoted = held.getLast?.map Prod.fst ∧ (t.point p).watch = some s.time
        ∧ (t.point p).maskSent = some (t.acceptMask p) ∧ t.pointSetup = s.pointSetup)
      ∧ (held = [] → (s.point p).queue = [] → (s.point p).releaseOwed = [] → s.enginesQuiet →
        ∃ t, exec (.ident p recognised held) s = .next t
          ∧ (t.point p).core
            = { (s.point p).core with
                recognised := some (recognised.map BitVec.toNat), lastNoted := none, line := .up
                watch := some s.time }
          ∧ OtherPoint p s t ∧ Frame [.points, .bus, .reconciler] s t))
    ∧ ((∀ d ∈ recognised, 1 ≤ d.toNat ∧ d.toNat ≤ 50000) → 1 ≤ recognised.length → recognised.length ≤ 16 →
      s.enginesQuiet → s.enginesPay → ¬s.payingAt p → s.boxAgrees → (s.point p).releaseOwed = [] →
      ((s.point p).queue.map Credit.item).Nodup → (∀ c ∈ (s.point p).queue, c.route = none ∧ c.applied = true) →
      (s.point p).queue.length + (held.filter (fun h => !(s.point p).queue.any (fun c => c.item == h.1))).length ≤ 16 →
      ∃ t, exec (.ident p recognised held) s = .next t
        ∧ (t.point p).queue
          = ((s.point p).queue.map (fun c =>
                if held.any (fun h => h.1 == c.item) then c else { c with route := some .cashbox })).dropWhile
              (fun c => c.route.isSome)
            ++ (held.filter (fun h => !(s.point p).queue.any (fun c => c.item == h.1))).map (fun h =>
                ⟨h.1, if 1 ≤ h.2.toNat ∧ h.2.toNat ≤ 50000 then h.2.toNat else 0, s.time, none, true⟩)
        ∧ (t.point p).lastNoted = held.getLast?.map Prod.fst ∧ (t.point p).line = .up ∧ (t.point p).releaseOwed = []
        ∧ ((s.point p).routeOut = none →
          (t.point p).routeOut = ((t.point p).queue.find? (fun c => c.route.isNone)).map Credit.item)
        ∧ (s.cashbox.state ≠ .removed →
          s.cashbox.count + ((s.point p).queue.filter (fun c => !held.any (fun h => h.1 == c.item))).length ≤ 65535 →
          s.cashbox.value
            + (((s.point p).queue.filter (fun c => !held.any (fun h => h.1 == c.item))).map Credit.denomination).sum
              ≤ 9999999 →
          t.cashbox.count
              = s.cashbox.count + ((s.point p).queue.filter (fun c => !held.any (fun h => h.1 == c.item))).length
            ∧ t.cashbox.value
              = s.cashbox.value
                + (((s.point p).queue.filter (fun c => !held.any (fun h => h.1 == c.item))).map Credit.denomination).sum)
        ∧ ((s.point p).binding = .none → held ≠ [] → (s.point p).queue = [] →
          (∀ h ∈ held, 1 ≤ h.2.toNat ∧ h.2.toNat ≤ 50000) →
          (t.point p).unclaimed
            = min ((s.point p).unclaimed + (held.map (fun h => h.2.toNat)).sum) 99999)
        ∧ ((s.engine .m).state ≠ .running
            ∨ (s.cashbox.presence = .inPlace
              ∧ s.cashbox.count + ((s.point p).queue.filter (fun c => !held.any (fun h => h.1 == c.item))).length
                < s.system.boxCapacity) →
          OtherPoint p s t))
    ∧ (recognised.length = 0 ∨ 16 < recognised.length ∨ (recognised.any (fun d => d.toNat < 1 || 50000 < d.toNat)) = true →
      ∃ t, exec (.ident p recognised held) s = .next t ∧ Frame [] s t))

/-- R180, R181, R93: a line without a message for 1,000 ms, or without an IDENT 1,000 ms after its IDENTIFY, is LOST
with ACCEPTOR-SILENT in the point's bank; in LOST the IDENTIFY is sent again every 1,000 ms; on an UP line the mask is
sent every 200 ms, measured from the MASK-UPDATE sent last (the model's choice, log 54). After start-up a MASK-HELD on
an UP line is heard, a MASK-HELD or ACCEPTED on a LOST line starts it again with an IDENTIFY, and a message with a bad
check is as if not received. The command carries the time count forward to the moment (log 13), and the first IDENTIFY
of a LOST line comes 1,000 ms after the loss (log 65): the model's choices. -/
def Obligations.LinesAreWatched : Prop :=
  ∀ (s : State) (p : PointId) (watch : Time) (item : Byte) (d : BitVec 24) (mask : BitVec 16),
    (s.point p).watch = some watch →
    (((s.point p).line = .up →
      ∃ t, exec (.silent p) s = .next t ∧ (t.point p).line = .lost ∧ (t.point p).routeOut = none
        ∧ t.time = (if age s.time watch < 100 then watch + 100#32 else s.time) ∧ (t.point p).watch = some t.time
        ∧ t.pointBank p
          = (s.pointBank p).take ⟨.acceptorSilent, t.time, none, none, none, .intake p, some 1⟩
        ∧ (∀ q, (t.port q).latched &&& Event.pointFault.mask = Event.pointFault.mask)
        ∧ t.cashbox = s.cashbox ∧ t.storeBanks = s.storeBanks ∧ t.countMemory = s.countMemory)
    ∧ ((s.point p).line = .starting →
      ∃ t, exec (.noIdent p) s = .next t ∧ (t.point p).line = .lost
        ∧ t.time = (if age s.time watch < 100 then watch + 100#32 else s.time) ∧ (t.point p).watch = some t.time
        ∧ t.pointBank p
          = (s.pointBank p).take ⟨.acceptorSilent, t.time, none, none, none, .intake p, some 2⟩
        ∧ (∀ q, (t.port q).latched &&& Event.pointFault.mask = Event.pointFault.mask)
        ∧ t.cashbox = s.cashbox ∧ t.storeBanks = s.storeBanks ∧ t.countMemory = s.countMemory)
    ∧ ((s.point p).line = .lost →
      ∃ t, exec (.identify p) s = .next t
        ∧ t.time = (if age s.time watch < 100 then watch + 100#32 else s.time)
        ∧ (t.point p).core = { (s.point p).core with watch := some t.time } ∧ (t.point p).sent = [.identify]
        ∧ OtherPoint p s t ∧ Frame [.time, .points] s t)
    ∧ ((s.point p).line = .up →
      ∃ t, exec (.maskUpdate p) s = .next t ∧ (t.point p).core = (s.point p).core
        ∧ t.time
          = (match (s.point p).maskSentAt with
            | some at_ => if age s.time at_ < 20 then at_ + 20#32 else s.time
            | none => s.time)
        ∧ (t.point p).mask = s.acceptMask p ∧ (t.point p).maskSent = some (s.acceptMask p)
        ∧ (t.point p).maskSentAt = some t.time ∧ (t.point p).sent = [.maskUpdate (s.acceptMask p)]
        ∧ OtherPoint p s t ∧ Frame [.time, .points] s t)
    ∧ (∃ t, exec (.acceptorBadCheck p) s = .next t ∧ Frame [] s t)
    ∧ (s.startUp.ended = true → (s.point p).line = .up →
      ∃ t, exec (.maskHeld p mask) s = .next t ∧ (t.point p).core = { (s.point p).core with watch := some s.time }
        ∧ OtherPoint p s t ∧ Frame [.points] s t)
    ∧ (s.startUp.ended = true → (s.point p).line = .lost →
      (∃ t, exec (.maskHeld p mask) s = .next t
        ∧ (t.point p).core = { (s.point p).core with line := .starting, watch := some s.time }
        ∧ .identify ∈ (t.point p).sent ∧ OtherPoint p s t ∧ Frame [.points] s t)
      ∧ (∃ t, exec (.accepted p item d) s = .next t
        ∧ (t.point p).core = { (s.point p).core with line := .starting, watch := some s.time }
        ∧ .identify ∈ (t.point p).sent ∧ OtherPoint p s t ∧ Frame [.points] s t)))

/-- R102, R104, R105: CLEAR-UNCLAIMED answers the unclaimed credit and sets it to 0. FLOAT-BEGIN binds an unbound point
with an empty queue to FLOAT with total 0, and FLOAT-END with an empty queue unbinds it and answers the total. A bound
point is refused with POINT or STATE, and a queue that is not empty with BUSY. -/
def Obligations.FloatsAndUnclaimedCredit : Prop :=
  ∀ (s : State) (port : PortId) (f : ByteFields) (p : PointId), Sys2Proof.Machine.pointOf f.value = some p →
    ((s.ready port .clearUnclaimed →
      ∃ t, exec (.clearUnclaimed port (.fits f)) s = .next t
        ∧ (t.point p).core = { (s.point p).core with unclaimed := 0 } ∧ OtherPoint p s t
        ∧ Answered s t port .clearUnclaimed .done (bytesOf 3 (s.point p).unclaimed)
        ∧ Frame [.points, .ports, .free] s t)
    ∧ (s.ready port .floatBegin →
      ((s.point p).binding = .none → (s.point p).queue = [] →
        ∃ t, exec (.floatBegin port (.fits f)) s = .next t
          ∧ (t.point p).core = { (s.point p).core with binding := .float 0 } ∧ OtherPoint p s t
          ∧ Answered s t port .floatBegin .done [] ∧ Frame [.points, .ports, .free] s t)
      ∧ ((s.point p).binding = .none → (s.point p).queue ≠ [] →
        ∃ t, exec (.floatBegin port (.fits f)) s = .next t ∧ Answered s t port .floatBegin .busy []
          ∧ Frame [.ports, .free] s t)
      ∧ (∀ total, floatTotal (s.point p).binding = some total →
        ∃ t, exec (.floatBegin port (.fits f)) s = .next t ∧ Answered s t port .floatBegin .done []
          ∧ Frame [.ports, .free] s t)
      ∧ ((s.point p).binding ≠ .none → floatTotal (s.point p).binding = none →
        ∃ t, exec (.floatBegin port (.fits f)) s = .next t ∧ Answered s t port .floatBegin .point []
          ∧ Frame [.ports, .free] s t))
    ∧ (s.ready port .floatEnd →
      (∀ total, floatTotal (s.point p).binding = some total → (s.point p).queue = [] →
        ∃ t, exec (.floatEnd port (.fits f)) s = .next t
          ∧ (t.point p).core = { (s.point p).core with binding := .none } ∧ OtherPoint p s t
          ∧ Answered s t port .floatEnd .done (bytesOf 3 total) ∧ Frame [.points, .ports, .free] s t)
      ∧ (∀ total, floatTotal (s.point p).binding = some total → (s.point p).queue ≠ [] →
        ∃ t, exec (.floatEnd port (.fits f)) s = .next t ∧ Answered s t port .floatEnd .busy []
          ∧ Frame [.ports, .free] s t)
      ∧ (floatTotal (s.point p).binding = none →
        ∃ t, exec (.floatEnd port (.fits f)) s = .next t ∧ Answered s t port .floatEnd .state []
          ∧ Frame [.ports, .free] s t)))

/-! ## Payout engines (06) -/

/-- R111 to R113: PAY of a SETTLED record at its point, from the port or AS-POINT that acts for it, takes it to PAYING
and the point's engine to RUNNING, which asks for the store of the list's first entry. Another point is refused with
POINT, and another state with STATE. -/
def Obligations.PayStartsTheEngine : Prop :=
  ∀ (s : State) (port : PortId) (f : TagFields) (i : Slot) (r : Rec) (p : PointId) (en : Entry) (rest : List Entry),
    s.ready port .pay → s.holds f.tag i r →
    ((r.state ≠ .settled → r.state ≠ .paying →
      ∃ t, exec (.pay port (.fits f)) s = .next t ∧ Answered s t port .pay .state [] ∧ Frame [.ports, .free] s t)
    ∧ (r.state = .settled →
      (s.pointOf r.tag = none
          ∨ (s.pointOf r.tag = some p ∧ ((s.port port).asPoint.or (ownPoint port)).getD p ≠ p) →
        ∃ t, exec (.pay port (.fits f)) s = .next t ∧ Answered s t port .pay .point [] ∧ Frame [.ports, .free] s t)
      ∧ (s.pointOf r.tag = some p → ((s.port port).asPoint.or (ownPoint port)).getD p = p →
        r.list = en :: rest → (s.store en.station).working = true → s.enginesQuiet → s.bus.sound →
        ∃ t, exec (.pay port (.fits f)) s = .next t
          ∧ t.slot i = some
              { r with
                state := .paying, stateSince := s.time, delivered := some 0, pinned := false, lapseAt := none
                settledFrom := none }
          ∧ OtherSlots i s t
          ∧ Asked s t (pointEngine p) en.station
              { Engine.reset with
                state := .running, record := some r.tag, mode := some (s.setup p).mode, retry := (s.setup p).retry }
          ∧ OtherEngines (pointEngine p) s t ∧ OtherStores en.station s t
          ∧ Answered s t port .pay .started
              (bytesOf 1 (pointCode p) ++ bytesOf 3 (r.planned.getD 0) ++ bytesOf 1 (listItems r.list))
          ∧ Frame [.records, .stores, .engines, .bus, .reconciler, .ports, .free] s t)))

/-- R126, R187, R192: ABORT of an engine that the port may not name is refused with PRIVILEGE; IDLE and ENDING engines
answer DONE and stay; with an eject outstanding or a band read awaited a running engine goes to ENDING; with nothing
outstanding its payout ends at once: the record's list is released and it goes to PAID or PART-PAID, the engine is
IDLE, and PAYOUT-END is latched; a run of engine M so ends with outcome ABORTED and SKIM-END (R125, R133). That an
EJECT on the bus counts as an eject outstanding is the model's reading (log 16). -/
def Obligations.AbortStopsAnEngine : Prop :=
  ∀ (s : State) (port : PortId) (f : ByteFields) (e : EngineId) (p : PointId) (i : Slot) (r : Rec),
    s.ready port .abort → engineOf f.value = some e →
    ((port ≠ .m → (ownPoint port).map pointEngine ≠ some e → (s.port port).asPoint.map pointEngine ≠ some e →
      ∃ t, exec (.abort port (.fits f)) s = .next t ∧ Answered s t port .abort .privilege []
        ∧ Frame [.ports, .free] s t)
    ∧ (port = .m ∨ (ownPoint port).map pointEngine = some e ∨ (s.port port).asPoint.map pointEngine = some e →
      ((s.engine e).state ≠ .running →
        ∃ t, exec (.abort port (.fits f)) s = .next t ∧ Answered s t port .abort .done [] ∧ Frame [.ports, .free] s t)
      ∧ ((s.engine e).state = .running → (s.ejecting e = true ∨ (s.engine e).bandAwaited.isSome = true) →
        s.enginesQuiet →
        ∃ t, exec (.abort port (.fits f)) s = .next t
          ∧ t.engine e = { s.engine e with state := .ending, endCause := some .aborted } ∧ OtherEngines e s t
          ∧ Answered s t port .abort .started [] ∧ Frame [.engines, .bus, .reconciler, .ports, .free] s t)
      ∧ ((s.engine e).state = .running → s.ejecting e = false → (s.engine e).bandAwaited = none → s.poolAgrees →
        s.arbitersSound →
        (∀ run, (s.engine .m).run = some run → e = .m →
          ∃ t, exec (.abort port (.fits f)) s = .next t
            ∧ t.engine .m
              = { Engine.reset with
                  lastRun := some
                    ⟨run.kind, run.station, run.counted, run.counted * (s.store run.station).cfg.denomination, .aborted⟩ }
            ∧ (∀ q, (t.port q).latched &&& Event.skimEnd.mask = Event.skimEnd.mask)
            ∧ AnsweredCore s t port .abort .done [])
        ∧ (e = pointEngine p → (s.point p).queueSettled → (s.engine e).record = some r.tag → s.slot i = some r →
          ∃ t, exec (.abort port (.fits f)) s = .next t ∧ t.engine e = Engine.reset
            ∧ t.slot i = some
                { r with
                  state := if r.owed.getD 0 ≤ r.paid then .paid else .partPaid, stateSince := s.time, list := []
                  planned := none, delivered := none, lapseAt := none, settledFrom := none, pinned := false
                  listChange := if r.list = [] then r.listChange else r.listChange + 1#8 }
            ∧ (∀ q, (t.port q).latched &&& (payoutEnd e).mask = (payoutEnd e).mask)
            ∧ AnsweredCore s t port .abort .done []))))

/-- R129 to R131: SKIM, SKIM-TO and TEST-EJECT start a run of engine M at an ACTIVE store with items to take, and answer
the number expected; with nothing to take SKIM and SKIM-TO answer DONE with 0 and TEST-EJECT STATE; an engine M that
runs is BUSY, and a cashbox REMOVED or FULL, or a store not ACTIVE, is STATE. A station outside 1 to 12, and items outside
1 to 2,000 for SKIM or above 2,000 for SKIM-TO, are refused with RANGE. -/
def Obligations.RunsOfEngineMStart : Prop :=
  ∀ (s : State) (f : SkimFields) (i : Station),
    ((s.ready .m .skim → (stationOf f.station = none ∨ f.items = 0#16 ∨ 2000 < f.items.toNat) →
      ∃ t, exec (.skim .m (.fits f)) s = .next t ∧ Answered s t .m .skim .range [] ∧ Frame [.ports, .free] s t)
    ∧ (s.ready .m .skimTo → (stationOf f.station = none ∨ 2000 < f.items.toNat) →
      ∃ t, exec (.skimTo .m (.fits f)) s = .next t ∧ Answered s t .m .skimTo .range [] ∧ Frame [.ports, .free] s t)
    ∧ (s.ready .m .testEject → stationOf f.station = none →
      ∃ t, exec (.testEject .m (.fits ⟨f.station⟩)) s = .next t ∧ Answered s t .m .testEject .range []
        ∧ Frame [.ports, .free] s t)
    ∧ (stationOf f.station = some i → s.enginesQuiet → s.bus.sound →
    ((s.ready .m .skim → 1 ≤ f.items.toNat → f.items.toNat ≤ 2000 →
      (s.readyToRun i → (s.store i).reserved < (s.store i).count →
        ∃ t, exec (.skim .m (.fits f)) s = .next t ∧ RunStarted s t .skim i f.items.toNat
          ∧ Answered s t .m .skim .started (bytesOf 2 (min f.items.toNat ((s.store i).count - (s.store i).reserved))))
      ∧ (s.readyToRun i → (s.store i).count ≤ (s.store i).reserved →
        ∃ t, exec (.skim .m (.fits f)) s = .next t ∧ Answered s t .m .skim .done [0#8, 0#8] ∧ Frame [.ports, .free] s t)
      ∧ (¬s.readyToRun i →
        ∃ t, exec (.skim .m (.fits f)) s = .next t ∧ Frame [.ports, .free] s t
          ∧ Answered s t .m .skim (if (s.engine .m).state = .idle then .state else .busy) []))
    ∧ (s.ready .m .skimTo → f.items.toNat ≤ 2000 →
      (s.readyToRun i → f.items.toNat < (s.store i).count - (s.store i).reserved →
        ∃ t, exec (.skimTo .m (.fits f)) s = .next t ∧ RunStarted s t .skimTo i f.items.toNat
          ∧ Answered s t .m .skimTo .started
              (bytesOf 2 ((s.store i).count - (s.store i).reserved - f.items.toNat)))
      ∧ (s.readyToRun i → (s.store i).count - (s.store i).reserved ≤ f.items.toNat →
        ∃ t, exec (.skimTo .m (.fits f)) s = .next t ∧ Answered s t .m .skimTo .done [0#8, 0#8]
          ∧ Frame [.ports, .free] s t)
      ∧ (¬s.readyToRun i →
        ∃ t, exec (.skimTo .m (.fits f)) s = .next t ∧ Frame [.ports, .free] s t
          ∧ Answered s t .m .skimTo (if (s.engine .m).state = .idle then .state else .busy) []))
    ∧ (s.ready .m .testEject →
      (s.readyToRun i → (s.store i).reserved < (s.store i).count →
        ∃ t, exec (.testEject .m (.fits ⟨f.station⟩)) s = .next t ∧ RunStarted s t .testEject i 1
          ∧ Answered s t .m .testEject .started [])
      ∧ (s.readyToRun i → (s.store i).count ≤ (s.store i).reserved →
        ∃ t, exec (.testEject .m (.fits ⟨f.station⟩)) s = .next t ∧ Answered s t .m .testEject .state []
          ∧ Frame [.ports, .free] s t)
      ∧ (¬s.readyToRun i →
        ∃ t, exec (.testEject .m (.fits ⟨f.station⟩)) s = .next t ∧ Frame [.ports, .free] s t
          ∧ Answered s t .m .testEject (if (s.engine .m).state = .idle then .state else .busy) [])))))

/-- R113, R114: a DIVERT done lets the engine that works the store ask for its EJECT, and an EJECT done is outstanding
with its result to be asked for. -/
def Obligations.EngineExchangesAdvance : Prop :=
  ∀ (s : State) (station : BitVec 4) (e : EngineId) (i : Station) (d : Dest),
    s.enginesQuiet → (s.engine e).station = some i →
    ((s.onWire station (.engine e) i (.divert d) false → (s.store i).working = true →
      (e = .m → s.boxStops = false ∧ (s.engine .m).run.map s.goalMet = some false) →
      ∃ t, exec (.divert station true) s = .next t ∧ t.engine e = { s.engine e with needs := some .eject }
        ∧ t.bus.exchange = none ∧ t.bus.standing (.engine e) = true ∧ OtherEngines e s t
        ∧ Frame [.engines, .bus, .reconciler] s t)
    ∧ (s.onWire station (.engine e) i .eject false →
      ∃ t, exec (.eject station true) s = .next t
        ∧ t.engine e
          = { s.engine e with
              outstanding := some ⟨i, engineDest e, s.time, (s.engine e).repeats⟩, needs := some .result }
        ∧ t.bus.exchange = none ∧ t.bus.standing (.engine e) = true ∧ OtherEngines e s t
        ∧ Frame [.engines, .bus, .reconciler] s t))

/-- R119 to R123: a DIVERT, an EJECT or a RESULT that ends in NONE for a payout engine releases the rest of the entry and
excludes its store, and a band read of the store is awaited; but under RETRY with a repeat left a RESULT of NONE sends
EJECT again (that an entry cut to nothing gets no repeat is the model's choice, log 47). The band read ends the wait and
the grant, and the mode follows: HALT, or an ABORT before it, ends the payout; CONTINUE and RETRY walk on with the next
entry or, with none left, end it; SUBSTITUTE first puts the plan it finds for the value released into the list. -/
def Obligations.FinalNoneAwaitsTheBand : Prop :=
  ∀ (s : State) (station : BitVec 4) (p : PointId) (i : Station) (d : Dest) (held : Bool) (j : Slot) (r : Rec)
    (w : Work) (rest : List Work) (b : Band) (en : Entry) (entries plan : List Entry),
    s.enginesQuiet → s.poolAgrees → (s.engine (pointEngine p)).station = some i → (s.store i).working = true →
    (s.engine (pointEngine p)).record = some r.tag → s.slot j = some r →
    ((s.onWire station (.engine (pointEngine p)) i (.divert d) false →
      ∃ t, exec (.divert station false) s = .next t ∧ EntryDropped s t p i j r ∧ t.countMemory = s.countMemory)
    ∧ (s.onWire station (.engine (pointEngine p)) i .eject false →
      ∃ t, exec (.eject station false) s = .next t ∧ EntryDropped s t p i j r
        ∧ (t.store i).ejectRecord = none ∧ (t.engine (pointEngine p)).outstanding = none)
    ∧ (s.onWire station (.engine (pointEngine p)) i .result false →
      ((s.engine (pointEngine p)).state = .ending ∨ (s.engine (pointEngine p)).mode ≠ some .retry
        ∨ (s.engine (pointEngine p)).retry ≤ (s.engine (pointEngine p)).repeats ∨ itemsAt r.list i = 0) →
      ∃ t, exec (.result station (some (.none, held))) s = .next t ∧ EntryDropped s t p i j r
        ∧ (t.store i).ejectRecord = none ∧ (t.engine (pointEngine p)).outstanding = none ∧ (t.store i).held = held)
    ∧ (s.onWire station (.engine (pointEngine p)) i .result false → (s.engine (pointEngine p)).state = .running →
      (s.engine (pointEngine p)).mode = some .retry →
      (s.engine (pointEngine p)).repeats < (s.engine (pointEngine p)).retry → 0 < itemsAt r.list i →
      ∃ t, exec (.result station (some (.none, held))) s = .next t
        ∧ t.engine (pointEngine p)
          = { s.engine (pointEngine p) with
              outstanding := none, needs := some .eject, repeats := (s.engine (pointEngine p)).repeats + 1 }
        ∧ t.bus.standing (.engine (pointEngine p)) = true
        ∧ t.store i = { s.store i with ejectRecord := none, held := held }
        ∧ OtherStores i s t ∧ OtherEngines (pointEngine p) s t ∧ (∀ k, t.slot k = s.slot k))
    ∧ (s.workOnWire station w rest .band → w.station = i → w.afterNone = true →
      (s.engine (pointEngine p)).bandAwaited = some i → itemsAt r.list i = 0 → s.arbitersSound →
      (s.store i).holder = some (pointEngine p) → (s.store i).waiting = [] → (s.store i).ejectRecord = none →
      (∀ at_, (s.store i).lastRouted = some at_ → 50 ≤ age s.time at_) →
      (s.store i).reserved ≤ bandUpper (s.store i).cfg b →
      ((s.point p).queueSettled →
        ((s.engine (pointEngine p)).state = .ending ∨ (s.engine (pointEngine p)).mode = some .halt →
          ∃ t, exec (.band station (some b)) s = .next t ∧ PayoutEnded s t p j r ∧ (t.store i).holder = none
            ∧ ∀ k, (t.store k).reserved = (s.store k).reserved - itemsAt r.list k)
        ∧ ((s.engine (pointEngine p)).state = .running → r.list = [] →
          ((s.engine (pointEngine p)).mode = some .cont ∨ (s.engine (pointEngine p)).mode = some .retry
            ∨ ((s.engine (pointEngine p)).mode = some .substitute ∧ s.substitutePlan p = none)) →
          ∃ t, exec (.band station (some b)) s = .next t ∧ PayoutEnded s t p j r ∧ (t.store i).holder = none))
      ∧ ((s.engine (pointEngine p)).state = .running →
        (r.list = en :: entries → (s.store en.station).working = true →
          ((s.engine (pointEngine p)).mode = some .cont ∨ (s.engine (pointEngine p)).mode = some .retry
            ∨ ((s.engine (pointEngine p)).mode = some .substitute ∧ s.substitutePlan p = none)) →
          ∃ t, exec (.band station (some b)) s = .next t ∧ (t.store i).holder = none ∧ t.slot j = some r
            ∧ OtherSlots j s t ∧ OtherEngines (pointEngine p) s t
            ∧ Asked s t (pointEngine p) en.station { s.engine (pointEngine p) with bandAwaited := none })
        ∧ ((s.engine (pointEngine p)).mode = some .substitute → s.substitutePlan p = some plan →
          (s.engine (pointEngine p)).excluded.getLsbD i.val = true →
          plan.foldl (fun l x => s.placeEntry x l) r.list = en :: entries → (s.store en.station).working = true →
          ∃ t, exec (.band station (some b)) s = .next t ∧ (t.store i).holder = none
            ∧ t.slot j = some
                { r with
                  list := en :: entries, listChange := r.listChange + 1#8
                  planned := r.planned.map (fun v => min (v + s.listValue plan) 99999) }
            ∧ (∀ k, (t.store k).reserved = (s.store k).reserved + itemsAt plan k)
            ∧ OtherSlots j s t ∧ OtherEngines (pointEngine p) s t
            ∧ Asked (s.reserve plan) t (pointEngine p) en.station
                { s.engine (pointEngine p) with bandAwaited := none }))))

/-- R116, R117, R132: an ITEM or a DOUBLE counts one or two items out of the store, with its tallies and HELD, adds
their value to the record's paid or the items to the run and the cashbox, whose loose figures take them while the box
is out, and a DOUBLE is captured as DOUBLE-FEED. One item is taken from the record's entry, the store's reserved and
added to delivered; an entry that holds more of them is worked on with the next EJECT or, at the end of a burst, behind
the engines that wait. R118, R125: with an entry's last item the store's band is asked for and the next entry worked,
and with the list's last item the payout ends. R79 to R81: where engine M leaves count below reserved, the youngest
SETTLED holder is released whole, or, with none, the youngest PAYING entry is cut, and RESERVATION-LOST is latched. R7,
R163: STORE-LEVEL is latched by the edges of the count, and the box's events by the change of its state. That
HELD is clear with the store's last item although the reply's held flag is set is the model's reading (log 40). -/
def Obligations.ResultsCountItems : Prop :=
  ∀ (s : State) (station : BitVec 4) (e : EngineId) (i : Station) (held : Bool) (outcome : EjectOutcome) (k : Nat),
    s.onWire station (.engine e) i .result false → s.enginesQuiet →
    ((outcome = .item ∧ k = 1) ∨ (outcome = .double ∧ k = 2)) → k ≤ (s.store i).count →
    ∃ t, exec (.result station (some (outcome, held))) s = .next t
      ∧ (t.store i).count = (s.store i).count - k
      ∧ (t.store i).outTally = (s.store i).outTally + BitVec.ofNat 32 k
      ∧ (t.store i).moduleTally = (s.store i).moduleTally + BitVec.ofNat 8 k
      ∧ (t.store i).ejectRecord = none ∧ ((t.store i).held = true ↔ held = true ∧ (s.store i).count ≠ k)
      ∧ (∀ j, j ≠ i → (t.store j).core = (s.store j).core)
      ∧ (k = 1 → t.storeBanks = s.storeBanks)
      ∧ (k = 2 → t.storeBank i
          = (s.storeBank i).take
              ⟨.doubleFeed, s.time, some (s.store i).count, none, none, .engine e, (s.engine e).record⟩)
      ∧ (e ≠ .m → t.cashbox = s.cashbox)
      ∧ (e = .m → s.boxAgrees →
          (s.cashbox.state ≠ .removed →
            (s.cashbox.count + k ≤ 65535 → t.cashbox.count = s.cashbox.count + k)
            ∧ (s.cashbox.value + k * (s.store i).cfg.denomination ≤ 9999999 →
              t.cashbox.value = s.cashbox.value + k * (s.store i).cfg.denomination)
            ∧ t.cashbox.looseCount = s.cashbox.looseCount ∧ t.cashbox.looseValue = s.cashbox.looseValue)
          ∧ (s.cashbox.state = .removed →
            (s.cashbox.looseCount + k ≤ 65535 → t.cashbox.looseCount = s.cashbox.looseCount + k)
            ∧ t.cashbox.count = s.cashbox.count ∧ t.cashbox.value = s.cashbox.value)
          ∧ BoxLatched s t keptFromNone)
      ∧ LevelLatched s t i keptFromNone
      ∧ (∀ run, e = .m → (s.engine .m).run = some run →
          (t.engine .m).run = some { run with counted := run.counted + k }
            ∨ ((t.engine .m).run = none ∧ ∃ last, (t.engine .m).lastRun = some last ∧ last.kind = run.kind
                ∧ last.station = run.station ∧ last.counted = run.counted + k))
      ∧ (∀ p j r, e = pointEngine p → (s.engine e).record = some r.tag → s.slot j = some r → s.tagsDistinct →
          r.listFormed → 2 ≤ itemsAt r.list i → (s.engine e).state = .running → (s.engine e).station = some i →
          (s.engine e).run = none →
          (s.store i).working = true → (s.store i).reserved + k ≤ (s.store i).count + 1 →
          (s.store i).burst + k < 8 →
          t.slot j = some
              { r with
                paid := min (r.paid + k * (s.store i).cfg.denomination) 99999
                delivered := r.delivered.map (fun v => min (v + (s.store i).cfg.denomination) 99999)
                list := r.list.map (fun en => if en.station = i then { en with items := en.items - 1 } else en)
                listChange := r.listChange + 1#8 }
            ∧ (t.store i).reserved = (s.store i).reserved - 1 ∧ (t.store i).burst = (s.store i).burst + k
            ∧ t.engine e
              = { s.engine e with
                  outstanding := none, needs := some .eject, repeats := 0, planItems := (s.engine e).planItems + 1 }
            ∧ OtherSlots j s t)
      ∧ (∀ p j r, e = pointEngine p → (s.engine e).record = some r.tag → s.slot j = some r → s.poolAgrees →
          (s.engine e).state = .running → (s.engine e).station = some i → (s.engine e).run = none →
          (s.store i).working = true → (s.store i).reserved + k ≤ (s.store i).count + 1 →
          (2 ≤ itemsAt r.list i → r.list.head?.map Entry.station = some i → 8 ≤ (s.store i).burst + k →
            (s.store i).holder = some e →
            ((s.store i).waiting = [] →
              (t.store i).burst = 0 ∧ (t.store i).holder = some e
                ∧ t.engine e
                  = { s.engine e with
                      outstanding := none, needs := some .eject, repeats := 0
                      planItems := (s.engine e).planItems + 1 })
            ∧ (∀ d ds, (s.store i).waiting = d :: ds → s.arbitersSound →
              (t.store i).burst = 0 ∧ (t.store i).holder = some d ∧ (t.store i).waiting = ds ++ [e]
                ∧ t.engine d = { s.engine d with grant := .held, needs := some .divert }
                ∧ t.engine e
                  = { s.engine e with
                      outstanding := none, needs := none, repeats := 0, grant := .waiting
                      planItems := (s.engine e).planItems + 1 }))
          ∧ (itemsAt r.list i = 1 → (s.store i).waiting = [] → s.arbitersSound →
            (t.reconciler.work ++ t.reconciler.deferred).any (fun w => w.readsBand i) = true
              ∧ (∀ en rest, r.list.filter (fun x => x.station != i) = en :: rest →
                (s.store en.station).working = true →
                t.slot j = some
                    { r with
                      paid := min (r.paid + k * (s.store i).cfg.denomination) 99999
                      delivered := r.delivered.map (fun v => min (v + (s.store i).cfg.denomination) 99999)
                      list := en :: rest, listChange := r.listChange + 1#8 }
                  ∧ (t.store i).reserved = (s.store i).reserved - 1 ∧ OtherSlots j s t
                  ∧ Asked s t e en.station
                      { s.engine e with outstanding := none, planItems := (s.engine e).planItems + 1 })
              ∧ (r.list.filter (fun x => x.station != i) = [] → (s.point p).queueSettled →
                PayoutEnded s t p j
                  { r with
                    paid := min (r.paid + k * (s.store i).cfg.denomination) 99999, list := []
                    listChange := r.listChange + 1#8 })))
      ∧ (∀ j q, e = .m → s.poolAgrees → s.arbitersSound → (s.engine .m).station = some i →
          (s.store i).working = true → s.youngestHolder i j q →
          (s.store i).count < (s.store i).reserved + k →
          (q.state = .settled → (s.store i).reserved + k ≤ (s.store i).count + itemsAt q.list i →
            t.slot j = some
                { q with
                  state :=
                    (match q.settledFrom with
                      | some .partPaid => .partPaid
                      | some .interrupted => .interrupted
                      | _ => if (s.pointOf q.tag).isSome then .tendering else .opened)
                  stateSince := s.time, list := [], planned := none, delivered := none, lapseAt := none
                  settledFrom := none, pinned := false, listChange := q.listChange + 1#8 }
              ∧ (∀ st, (t.store st).reserved = (s.store st).reserved - itemsAt q.list st) ∧ OtherSlots j s t
              ∧ ∀ port, (t.port port).latched &&& Event.reservationLost.mask = Event.reservationLost.mask)
          ∧ (q.state = .paying →
            (∀ j' q', s.slot j' = some q' → q'.state = .settled → listHas q'.list i = false) →
            (s.store i).reserved + k < (s.store i).count + itemsAt q.list i →
            t.slot j = some
                { q with
                  list :=
                    q.list.map (fun en =>
                      if en.station = i then
                        { en with items := en.items - ((s.store i).reserved + k - (s.store i).count) } else en)
                  listChange := q.listChange + 1#8
                  planned :=
                    q.planned.map (· -
                      ((s.store i).reserved + k - (s.store i).count) * (s.store i).cfg.denomination) }
              ∧ (t.store i).reserved = (s.store i).count - k ∧ OtherSlots j s t
              ∧ ∀ port, (t.port port).latched &&& Event.reservationLost.mask = Event.reservationLost.mask))
      ∧ (∀ j, (s.payRecord e).map Prod.fst = some j →
          (t.slot j).map Rec.paid
            = (s.slot j).map (fun r => min (r.paid + k * (s.store i).cfg.denomination) 99999))
      ∧ t.countMemory.newer.data.stations[i.val]'i.isLt = (t.store i).counts

/-- R115, R119: a PENDING reply before the deadline leaves the eject outstanding with nothing asked, RESULT_REASK asks
again, and the deadline with no RESULT on the bus, or a PENDING reply after it, ends it as a final NONE: for a payout
engine the rest of the entry is released, its store excluded and a band read awaited. The command carries the time count
forward to the moment (the model's choice, log 13). -/
def Obligations.PendingResultsAreAskedAgain : Prop :=
  ∀ (s : State) (station : BitVec 4) (e : EngineId) (i : Station) (o : Outstanding),
    s.enginesQuiet → s.bus.sound → s.chainsOrdered → (s.engine e).outstanding = some o → o.station = i →
    ((s.onWire station (.engine e) i .result false → age s.time o.repliedAt < (s.store i).cfg.window + 20 →
      ∃ t, exec (.result station none) s = .next t ∧ t.engine e = { s.engine e with needs := none }
        ∧ t.bus.exchange = none ∧ OtherEngines e s t ∧ Frame [.engines, .bus, .reconciler] s t)
    ∧ ((s.engine e).needs = none →
      ∃ t, exec (.resultReask (.engine e)) s = .next t ∧ t.engine e = { s.engine e with needs := some .result }
        ∧ t.bus.standing (.engine e) = true ∧ OtherEngines e s t ∧ Frame [.engines, .bus, .reconciler] s t)
    ∧ (s.onBus e .result = false → (s.store i).ejectRecord.isSome = true →
      ∃ t, exec (.resultDeadline (.engine e)) s = .next t ∧ (t.engine e).outstanding = none
        ∧ (t.store i).ejectRecord = none ∧ (t.store i).count = (s.store i).count
        ∧ (s.store i).cfg.window + 20 ≤ age t.time o.repliedAt ∧ t.cashbox = s.cashbox
        ∧ t.countMemory.newer.data.stations[i.val]'i.isLt = (t.store i).counts)
    ∧ ∀ p j r, e = pointEngine p → s.poolAgrees → (s.engine e).station = some i → (s.store i).working = true →
      (s.engine e).record = some r.tag → s.slot j = some r →
      (s.onBus e .result = false →
        ∃ t, exec (.resultDeadline (.engine e)) s = .next t ∧ EntryDropped s t p i j r)
      ∧ (s.onWire station (.engine e) i .result false → (s.store i).cfg.window + 20 ≤ age s.time o.repliedAt →
        ∃ t, exec (.result station none) s = .next t ∧ EntryDropped s t p i j r ∧ (t.store i).ejectRecord = none))

/-! ## The tube bus (07) -/

/-- R145: the holder that gives up the bus is followed by the first of the round; an empty round is formed from the
waiting set in the order engines P1, P2, M, intake units P1, P2, reconciler, poller, which leaves the waiting set
empty. -/
def Obligations.TheBusPassesInRounds : Prop :=
  ∀ (b : Bus), b.waiting.Nodup →
    (∀ r rest, b.round = r :: rest → b.pass.holder = some r ∧ b.pass.round = rest ∧ b.pass.waiting = b.waiting)
    ∧ (b.round = [] → b.pass.waiting = []
        ∧ (b.pass.holder.toList ++ b.pass.round).Perm b.waiting
        ∧ (b.pass.holder.toList ++ b.pass.round).Pairwise (fun x y =>
            requesterOrder.findIdx (· == x) < requesterOrder.findIdx (· == y)))
    ∧ b.pass.exchange = none ∧ b.pass.polling = false

/-- R135, R145, R150: on its grant the holder's request goes out under the station's sequence number, which then
advances (the model's reading, log 22): an engine's DIVERT or RESULT, an EJECT after its record in count memory, the
reconciler's next exchange, or the poller's poll. During the module settle wait nothing is sent. That the grant and
the sending are two moments is the model's choice (log 10). -/
def Obligations.GrantsSendTheRequest : Prop :=
  ∀ (s : State) (e : EngineId) (i : Station) (o : Outstanding) (w : Work) (rest : List Work) (op : RecOp)
    (ops : List RecOp), s.bus.exchange = none → s.bus.polling = false → s.enginesQuiet →
    ((s.startUp.settling = true → ∃ t, exec .busGrant s = .next t ∧ Frame [] s t)
    ∧ (s.startUp.settling = false →
      (s.bus.holder = some (.engine e) → (s.engine e).station = some i → (s.engine e).needs = some .divert →
        ∃ t, exec .busGrant s = .next t
          ∧ t.bus.exchange = some ⟨.engine e, i, .divert (engineDest e), (s.store i).sequence, false, false⟩
          ∧ t.store i = { s.store i with sequence := (s.store i).sequence + 1#4 } ∧ OtherStores i s t
          ∧ Frame [.stores, .bus, .reconciler] s t)
      ∧ (s.bus.holder = some (.engine e) → (s.engine e).station = some i → (s.engine e).needs = some .eject →
        s.ejectAllowed e = true →
        ∃ t, exec .busGrant s = .next t
          ∧ t.bus.exchange = some ⟨.engine e, i, .eject, (s.store i).sequence, false, false⟩
          ∧ t.store i
            = { s.store i with
                sequence := (s.store i).sequence + 1#4, ejectRecord := some ⟨e, engineDest e⟩ }
          ∧ t.countMemory.newer.data.stations[i.val]'i.isLt = (t.store i).counts ∧ OtherStores i s t
          ∧ Frame [.stores, .bus, .reconciler, .countMemory] s t)
      ∧ (s.bus.holder = some (.engine e) → (s.engine e).needs = some .result → (s.engine e).outstanding = some o →
        ∃ t, exec .busGrant s = .next t
          ∧ t.bus.exchange = some ⟨.engine e, o.station, .result, (s.store o.station).sequence, false, false⟩
          ∧ t.store o.station = { s.store o.station with sequence := (s.store o.station).sequence + 1#4 }
          ∧ OtherStores o.station s t ∧ Frame [.stores, .bus, .reconciler] s t)
      ∧ (s.bus.holder = some .reconciler → s.reconciler.work = w :: rest → w.ops = op :: ops → w.paused = false →
        ∃ t, exec .busGrant s = .next t
          ∧ t.bus.exchange
            = some ⟨.reconciler, w.station, s.recRequest w.station op, (s.store w.station).sequence, false, false⟩
          ∧ t.store w.station = { s.store w.station with sequence := (s.store w.station).sequence + 1#4 }
          ∧ OtherStores w.station s t ∧ Frame [.stores, .bus, .reconciler] s t)
      ∧ (s.bus.holder = some .poller →
        ∃ t, exec .busGrant s = .next t ∧ t.bus.polling = true ∧ Frame [.bus, .reconciler] s t)))

/-- R136: a request without a reply is sent once more, the same in every byte; after that the exchange fails with
NO-REPLY, and a reply without TAKEN fails it with BAD-OP: the fault is captured with the operation, the store goes
OFFLINE by R11, STORE-FAULT is latched, and the bus passes on. -/
def Obligations.FailedExchangesTakeTheStoreOffline : Prop :=
  ∀ (s : State) (station : BitVec 4) (x : Exchange), s.bus.exchange = some x →
    ((x.repeated = false →
      ∃ t, exec .replyWait s = .next t ∧ t.bus = { s.bus with exchange := some { x with repeated := true } }
        ∧ Frame [.bus] s t)
    ∧ (x.repeated = true →
      ∃ t, exec .noReply s = .next t ∧ ExchangeFailed s t x .noReply)
    ∧ (replyStation station = some x.station →
      ∃ t, exec (.badOp station) s = .next t ∧ ExchangeFailed s t x .badOp))

/-- R94 to R97: an intake unit on its grant sends DIVERT fill to the accepting store of the denomination with the
lowest count, or, with none that accepts, counts the item into the cashbox and releases it with no request; with DONE
the item is counted into the store and released, and without DONE into the cashbox, with the events of its count (R7,
R163). That a count at the store's capacity stays there, while the in-tally rises (log 15), that the grant and the sending
are two moments (log 10) and that the number sent is the one held, which then advances (log 22), are the model's choices.
-/
def Obligations.ItemsAreRouted : Prop :=
  ∀ (s : State) (p : PointId) (c : Credit) (i : Station) (station : BitVec 4),
    (s.point p).outgoing = some c → (s.point p).releaseOwed = [] →
    ((s.bus.holder = some (.intake p) → s.bus.exchange = none → s.bus.polling = false → s.startUp.settling = false →
      (s.store i).cfg.denomination = c.denomination → (s.store i).accepts = true →
      (∀ j, (s.store j).cfg.denomination = c.denomination → (s.store j).accepts = true → j ≠ i →
        (s.store i).count < (s.store j).count ∨ ((s.store i).count = (s.store j).count ∧ i < j)) → s.enginesQuiet →
      ∃ t, exec .busGrant s = .next t
        ∧ t.bus.exchange = some ⟨.intake p, i, .divert (fillDest p), (s.store i).sequence, false, false⟩
        ∧ t.store i = { s.store i with sequence := (s.store i).sequence + 1#4 } ∧ OtherStores i s t
        ∧ Frame [.stores, .bus, .reconciler] s t)
    ∧ (s.bus.holder = some (.intake p) → s.bus.exchange = none → s.bus.polling = false → s.startUp.settling = false →
      (∀ j, (s.store j).cfg.denomination = c.denomination → (s.store j).accepts = false) →
      s.cashbox.state ≠ .removed → s.cashbox.count < 65535 → s.cashbox.value + c.denomination ≤ 9999999 →
      ∃ t, exec .busGrant s = .next t ∧ t.cashbox.count = s.cashbox.count + 1
        ∧ t.cashbox.value = s.cashbox.value + c.denomination ∧ t.bus.exchange = none
        ∧ (∀ j, (t.store j).core = (s.store j).core) ∧ .release c.item ∈ (t.point p).sent
        ∧ t.countMemory.newer.data.boxCount = t.cashbox.count ∧ (s.boxAgrees → BoxLatched s t keptFromNone))
    ∧ (s.onWire station (.intake p) i (.divert (fillDest p)) false →
      (∃ t, exec (.divertFill station true) s = .next t
          ∧ (t.store i).count
            = (if (s.store i).count < (s.store i).cfg.capacity then (s.store i).count + 1 else (s.store i).count)
          ∧ (t.store i).inTally = (s.store i).inTally + 1#32 ∧ (t.store i).lastRouted = some s.time
          ∧ (∀ j, j ≠ i → (t.store j).core = (s.store j).core) ∧ .release c.item ∈ (t.point p).sent
          ∧ t.cashbox = s.cashbox ∧ t.countMemory.newer.data.stations[i.val]'i.isLt = (t.store i).counts
          ∧ LevelLatched s t i keptFromNone)
      ∧ (s.cashbox.state ≠ .removed → s.cashbox.count < 65535 → s.cashbox.value + c.denomination ≤ 9999999 →
        ∃ t, exec (.divertFill station false) s = .next t ∧ t.cashbox.count = s.cashbox.count + 1
          ∧ t.cashbox.value = s.cashbox.value + c.denomination ∧ (∀ j, (t.store j).core = (s.store j).core)
          ∧ .release c.item ∈ (t.point p).sent ∧ t.countMemory.newer.data.boxCount = t.cashbox.count
          ∧ (s.boxAgrees → BoxLatched s t keptFromNone))))

/-- R147 to R149: attention is polled from QUIET, the stations whose mark came in and that the attention mask lets
through get their STATUS, TALLY, BAND and CLEAR-ATTN in ascending order, and an ended CLEAR-ATTN is the end of a
station's service. That the poll's command carries the time count forward to its moment (log 13), and that a service is
placed whole, its BAND not joined with a band read of the station that waits already (log 77), are the model's choices.
-/
def Obligations.AttentionIsServed : Prop :=
  ∀ (s : State) (slots : List (Option Byte)) (station : BitVec 4) (w : Work) (rest : List Work), s.enginesQuiet →
    ((s.startUp.ended = true → s.bus.poller = .quiet → s.bus.sound →
      ∃ t, exec .attentionPoll s = .next t ∧ t.bus.poller = .polling ∧ t.bus.standing .poller = true
        ∧ (∀ at_, s.bus.serviceEnd = some at_ → 2 ≤ age t.time at_) ∧ Frame [.time, .bus, .reconciler] s t)
    ∧ (s.bus.polling = true →
      (attentionSet slots &&& s.system.attention = 0#12 →
        ∃ t, exec (.attentionMap slots) s = .next t ∧ t.bus.poller = .quiet ∧ t.bus.exchange = none
          ∧ t.bus.polling = false ∧ t.bus.serviceEnd = some s.time ∧ Frame [.bus, .reconciler] s t)
      ∧ (attentionSet slots &&& s.system.attention ≠ 0#12 → (∀ x ∈ s.reconciler.work, s.stays x) →
        ∃ t, exec (.attentionMap slots) s = .next t ∧ t.bus.poller = .service
          ∧ t.bus.serviceLeft = attentionSet slots &&& s.system.attention ∧ t.bus.polling = false
          ∧ t.reconciler.work
            = s.reconciler.work
              ++ (stationsOf (attentionSet slots &&& s.system.attention)).map (fun i =>
                  newWork i .service [.status, .tally, .band, .clearAttn])
          ∧ Frame [.bus, .reconciler] s t))
    ∧ (s.workOnWire station w rest .clearAttn → w.ops = [.clearAttn] → w.cause = .service →
      (∀ x ∈ rest, s.stays x) →
      ∃ t, exec (.clearAttn station) s = .next t ∧ t.reconciler.work = rest ∧ t.bus.exchange = none
        ∧ t.bus.serviceLeft = s.bus.serviceLeft &&& ~~~stationBit w.station
        ∧ (t.bus.poller = if s.bus.serviceLeft &&& ~~~stationBit w.station = 0#12 then .quiet else s.bus.poller)
        ∧ Frame [.bus, .reconciler] s t))

/-- R143: a WINDOW to a station that is present, or whose gate position was UNSET, leaves the settings' STAGE-ON or
STAGE-OFF to come, and that one, with no newer settings due, clears the settings-due mark. -/
def Obligations.SettingsAreSent : Prop :=
  ∀ (s : State) (station : BitVec 4) (w : Work) (rest : List Work) (units : Nat),
    s.enginesQuiet → (w.cause = .settings ∨ w.cause = .startSettings) → (∀ x ∈ w :: rest, s.stays x) →
    ((s.workOnWire station w rest (.window units) → w.ops = [.window, .stage] → s.settable w.station = true →
      ∃ t, exec (.window station) s = .next t ∧ t.bus.exchange = none
        ∧ t.reconciler.work = { w with ops := [.stage], paused := false } :: rest ∧ Frame [.bus, .reconciler] s t)
    ∧ (w.ops = [.stage] → w.stale = false → rest.any (fun x => x.isSettings w.station) = false →
      (s.workOnWire station w rest .stageOn →
        ∃ t, exec (.stageOn station) s = .next t ∧ t.bus.exchange = none ∧ t.reconciler.work = rest
          ∧ t.store w.station = { s.store w.station with settingsDue := false, settingsUnset := false }
          ∧ OtherStores w.station s t ∧ Frame [.stores, .bus, .reconciler] s t)
      ∧ (s.workOnWire station w rest .stageOff →
        ∃ t, exec (.stageOff station) s = .next t ∧ t.bus.exchange = none ∧ t.reconciler.work = rest
          ∧ t.store w.station = { s.store w.station with settingsDue := false, settingsUnset := false }
          ∧ OtherStores w.station s t ∧ Frame [.stores, .bus, .reconciler] s t)))

/-! ## Refill and the cashbox (08) -/

/-- R151, R154, R156, R144: REFILL-BEGIN of a working, unreserved, ungranted store takes it to REFILL, and the three
refill commands place their exchange, whose end gives the reply; REFILL-BEGIN of any other store, and REFILL-END and
REFILL-CANCEL outside REFILL, are refused with STATE, and a station outside 1 to 12 with RANGE. -/
def Obligations.RefillCommandsPlaceTheirExchange : Prop :=
  ∀ (s : State) (f : ByteFields) (i : Station),
    ((stationOf f.value = none →
      (s.ready .m .refillBegin →
        ∃ t, exec (.refillBegin .m (.fits f)) s = .next t ∧ Answered s t .m .refillBegin .range []
          ∧ Frame [.ports, .free] s t)
      ∧ (s.ready .m .refillEnd →
        ∃ t, exec (.refillEnd .m (.fits f)) s = .next t ∧ Answered s t .m .refillEnd .range []
          ∧ Frame [.ports, .free] s t)
      ∧ (s.ready .m .refillCancel →
        ∃ t, exec (.refillCancel .m (.fits f)) s = .next t ∧ Answered s t .m .refillCancel .range []
          ∧ Frame [.ports, .free] s t))
    ∧ (stationOf f.value = some i → s.enginesQuiet →
    ((s.ready .m .refillBegin →
      ((s.store i).working = true → (s.store i).reserved = 0 → (s.store i).holder = none →
        (∀ e, (s.engine e).bandAwaited ≠ some i) →
        ∃ t, exec (.refillBegin .m (.fits f)) s = .next t ∧ t.store i = { s.store i with state := .refill }
          ∧ OtherStores i s t ∧ newWork i (.refillBegin (s.port .m).quiet) [.fillOpen] ∈ t.reconciler.work
          ∧ t.port .m = (s.port .m).waits .refillBegin ∧ OtherPorts .m s t
          ∧ Frame [.stores, .bus, .reconciler, .ports] s t)
      ∧ (((s.store i).working = false ∨ 0 < (s.store i).reserved ∨ (s.store i).holder ≠ none) →
        ∃ t, exec (.refillBegin .m (.fits f)) s = .next t ∧ Answered s t .m .refillBegin .state []
          ∧ Frame [.ports, .free] s t))
    ∧ (s.ready .m .refillEnd →
      ((s.store i).state = .refill →
        ∃ t, exec (.refillEnd .m (.fits f)) s = .next t
          ∧ newWork i (.refillEnd (s.port .m).quiet) [.fillClose] ∈ t.reconciler.work
          ∧ t.port .m = (s.port .m).waits .refillEnd ∧ OtherPorts .m s t ∧ Frame [.bus, .reconciler, .ports] s t)
      ∧ ((s.store i).state ≠ .refill →
        ∃ t, exec (.refillEnd .m (.fits f)) s = .next t ∧ Answered s t .m .refillEnd .state []
          ∧ Frame [.ports, .free] s t))
    ∧ (s.ready .m .refillCancel →
      ((s.store i).state = .refill →
        ∃ t, exec (.refillCancel .m (.fits f)) s = .next t
          ∧ newWork i (.refillCancel (s.port .m).quiet) [.fillClose] ∈ t.reconciler.work
          ∧ t.port .m = (s.port .m).waits .refillCancel ∧ OtherPorts .m s t ∧ Frame [.bus, .reconciler, .ports] s t)
      ∧ ((s.store i).state ≠ .refill →
        ∃ t, exec (.refillCancel .m (.fits f)) s = .next t ∧ Answered s t .m .refillCancel .state []
          ∧ Frame [.ports, .free] s t)))))

/-- R152 to R156: FILL-OPEN done answers REFILL-BEGIN with the count, and without DONE the store is back by its count,
its STATUS is to be read, then the band of an UNVERIFIED store (the order is the model's choice, log 69), and the reply is
STATE; FILL-CLOSE adds the fill tally to count and in-tally, up to the capacity, with FILL-OVERRUN for the excess, and
puts the store back UNVERIFIED, with STORE-LEVEL by the edges (R7), kept from Port M under QUIET (R155, R193); for
REFILL-CANCEL the tally is discarded. Where an offline cause has ended the refill before, each exchange changes no store,
and the reply is STATE. -/
def Obligations.RefillExchangesAnswer : Prop :=
  ∀ (s : State) (station : BitVec 4) (w : Work) (rest : List Work) (tally : BitVec 16) (quiet done : Bool),
    s.enginesQuiet →
    (((s.store w.station).state = .refill → s.workOnWire station w rest .fillOpen → w.cause = .refillBegin quiet →
      w.ops = [.fillOpen] →
      ∃ t, exec (.fillOpen station true) s = .next t ∧ (t.port .m).reply
          = some ⟨Cmd.code .refillBegin, .done, bytesOf 2 (s.store w.station).count⟩
        ∧ OtherPorts .m s t ∧ t.bus.exchange = none ∧ Frame [.bus, .reconciler, .ports, .free] s t)
    ∧ ((s.store w.station).state = .refill → s.workOnWire station w rest .fillOpen → w.cause = .refillBegin quiet →
      w.ops = [.fillOpen] →
      ∃ t, exec (.fillOpen station false) s = .next t
        ∧ t.store w.station = { s.store w.station with state := workingState (s.store w.station).count }
        ∧ OtherStores w.station s t ∧ newWork w.station .statusRead [.status] ∈ t.reconciler.work
        ∧ ((s.store w.station).unverified = true →
          (t.reconciler.work ++ t.reconciler.deferred).any (fun x => x.readsBand w.station) = true)
        ∧ (t.port .m).reply = some ⟨Cmd.code .refillBegin, .state, []⟩
        ∧ OtherPorts .m s t ∧ t.bus.exchange = none ∧ Frame [.stores, .bus, .reconciler, .ports, .free] s t)
    ∧ ((s.store w.station).state ≠ .refill →
      (s.workOnWire station w rest .fillOpen → w.cause = .refillBegin quiet → w.ops = [.fillOpen] →
        ∃ t, exec (.fillOpen station done) s = .next t
          ∧ (t.port .m).reply = some ⟨Cmd.code .refillBegin, .state, []⟩ ∧ OtherPorts .m s t ∧ t.bus.exchange = none
          ∧ Frame [.bus, .reconciler, .ports, .free] s t)
      ∧ (s.workOnWire station w rest .fillClose → w.ops = [.fillClose] →
        (w.cause = .refillEnd quiet →
          ∃ t, exec (.fillClose station tally) s = .next t
            ∧ (t.port .m).reply = some ⟨Cmd.code .refillEnd, .state, []⟩ ∧ OtherPorts .m s t ∧ t.bus.exchange = none
            ∧ Frame [.bus, .reconciler, .ports, .free] s t)
        ∧ (w.cause = .refillCancel quiet →
          ∃ t, exec (.fillClose station tally) s = .next t
            ∧ (t.port .m).reply = some ⟨Cmd.code .refillCancel, .state, []⟩ ∧ OtherPorts .m s t
            ∧ t.bus.exchange = none ∧ Frame [.bus, .reconciler, .ports, .free] s t)))
    ∧ ((s.store w.station).state = .refill → s.workOnWire station w rest .fillClose → w.ops = [.fillClose] →
      (w.cause = .refillEnd quiet →
        ∃ t, exec (.fillClose station tally) s = .next t
          ∧ (t.store w.station).count
            = min ((s.store w.station).count + tally.toNat) (s.store w.station).cfg.capacity
          ∧ (t.store w.station).inTally = (s.store w.station).inTally + BitVec.ofNat 32 tally.toNat
          ∧ (t.store w.station).state = workingState (t.store w.station).count ∧ (t.store w.station).unverified = true
          ∧ OtherStores w.station s t
          ∧ (t.port .m).reply
            = some ⟨Cmd.code .refillEnd, .done,
                bytesOf 2 tally.toNat ++ bytesOf 2 (t.store w.station).count
                  ++ bytesOf 2 ((s.store w.station).count + tally.toNat - (s.store w.station).cfg.capacity)⟩
          ∧ (((s.store w.station).count + tally.toNat ≤ (s.store w.station).cfg.capacity → t.storeBanks = s.storeBanks)
            ∧ ((s.store w.station).cfg.capacity < (s.store w.station).count + tally.toNat →
              t.storeBank w.station
                = (s.storeBank w.station).take
                    ⟨.fillOverrun, s.time, some (s.store w.station).count, some tally.toNat,
                      some ((s.store w.station).count + tally.toNat - (s.store w.station).cfg.capacity), .command,
                      none⟩))
          ∧ LevelLatched s t w.station (keptFromM quiet)
          ∧ Frame [.stores, .bus, .reconciler, .storeBanks, .ports, .countMemory, .free] s t)
      ∧ (w.cause = .refillCancel quiet →
        ∃ t, exec (.fillClose station tally) s = .next t
          ∧ t.store w.station
            = { s.store w.station with state := workingState (s.store w.station).count, unverified := true }
          ∧ OtherStores w.station s t ∧ OtherPorts .m s t
          ∧ (t.port .m).reply = some ⟨Cmd.code .refillCancel, .done, bytesOf 2 tally.toNat⟩
          ∧ Frame [.stores, .bus, .reconciler, .ports, .free] s t)))

/-- R161 to R163: the box drawn is REMOVED, with its figures kept, the loose figures from 0, and CASHBOX-REMOVED
latched, and count memory is written where the loose figures changed; a box in place counts from 0 and is kept in
count memory. -/
def Obligations.TheBoxIsDrawnAndReplaced : Prop :=
  ∀ (s : State) (i : Station), s.boxAgrees →
    ((s.cashbox.presence = .inPlace →
      ∃ t, exec (.cashboxPresence .out) s = .next t
        ∧ t.cashbox
          = { s.cashbox with presence := .out, state := .removed, looseCount := 0, looseValue := 0 }
        ∧ (∀ q, (t.port q).latched &&& Event.cashboxRemoved.mask = Event.cashboxRemoved.mask)
        ∧ (s.cashbox.looseCount = 0 → s.cashbox.looseValue = 0 → t.countMemory = s.countMemory)
        ∧ (0 < s.cashbox.looseCount ∨ 0 < s.cashbox.looseValue →
          t.countMemory.newer.data.number = s.countMemory.newer.data.number + 1#32
            ∧ t.countMemory.newer.data.boxCount = s.cashbox.count
            ∧ t.countMemory.newer.data.boxValue = s.cashbox.value)
        ∧ (t.store i).core = (s.store i).core ∧ t.system = s.system)
    ∧ (s.cashbox.presence = .out → 0 < s.system.boxNearFull → 0 < s.system.boxCapacity →
      ∃ t, exec (.cashboxPresence .inPlace) s = .next t
        ∧ t.cashbox = { s.cashbox with presence := .inPlace, state := .ok, count := 0, value := 0 }
        ∧ t.countMemory.newer.data.boxCount = 0 ∧ t.countMemory.newer.data.boxValue = 0
        ∧ (t.store i).core = (s.store i).core ∧ t.system = s.system)
    ∧ ∃ t, exec (.cashboxPresence s.cashbox.presence) s = .next t ∧ Frame [] s t)

/-! ## Stores, faults and count reconciliation (01, 09) -/

/-- R14, R15: what a store's state, UNVERIFIED, NEAR-FULL, count, reserved and floor give the planner and the intake
units. R172: the range of each level band, an empty range taken as its lower bound. R169: what a bank does with a
fault. -/
def Obligations.FiguresOfAStore : Prop :=
  (∀ r : Store,
    (r.usable = true ↔ (r.state = .active ∨ r.state = .empty) ∧ r.unverified = false)
    ∧ (r.accepts = true ↔ (r.state = .active ∨ r.state = .empty) ∧ r.nearFull = false ∧ r.unverified = false)
    ∧ (r.usable = true → r.freeCount = r.count - r.reserved ∧ r.firstPass = r.count - r.reserved - r.cfg.floor
        ∧ r.secondPass = r.count - r.reserved)
    ∧ (r.usable = false → r.freeCount = 0 ∧ r.firstPass = 0 ∧ r.secondPass = 0))
  ∧ (∀ c : StoreCfg,
    bandLower c .empty = 0 ∧ bandUpper c .empty = 0 ∧ bandLower c .low = 1 ∧ bandUpper c .low = max 1 c.low
      ∧ bandLower c .mid = c.low + 1 ∧ bandUpper c .mid = max (c.low + 1) (c.high - 1)
      ∧ bandLower c .high = c.high ∧ bandUpper c .high = max c.high (c.routeLimit - 1)
      ∧ bandLower c .full = c.routeLimit ∧ bandUpper c .full = max c.routeLimit c.capacity)
  ∧ ∀ (b : Bank) (f : Capture),
    (b.capture = none → b.take f = ⟨false, some f⟩)
    ∧ ∀ held, b.capture = some held →
      b.take f
        = ⟨true, some (if held.code.uncorrected = false ∧ f.code.uncorrected = true then f else held)⟩

/-- R16, R17: DISABLE of an unreserved, ungranted store outside REFILL, and ENABLE of a fitted DISABLED store, which
goes to ACTIVE or EMPTY with UNVERIFIED set and its STATUS read, settings and band read to come; otherwise nothing
changes, and the reply is DONE where the store is so already, else STATE, and RANGE for a station outside 1 to 12. That
DISABLE of a store already DISABLED is answered DONE though its reserved is above 0 is the model's choice (log 68). -/
def Obligations.DisableAndEnable : Prop :=
  ∀ (s : State) (f : ByteFields) (i : Station),
    ((stationOf f.value = none →
      (s.ready .m .disable →
        ∃ t, exec (.disable .m (.fits f)) s = .next t ∧ Answered s t .m .disable .range [] ∧ Frame [.ports, .free] s t)
      ∧ (s.ready .m .enable →
        ∃ t, exec (.enable .m (.fits f)) s = .next t ∧ Answered s t .m .enable .range [] ∧ Frame [.ports, .free] s t))
    ∧ (stationOf f.value = some i →
    ((s.ready .m .disable →
      ((s.store i).state = .disabled →
        ∃ t, exec (.disable .m (.fits f)) s = .next t ∧ Answered s t .m .disable .done [] ∧ Frame [.ports, .free] s t)
      ∧ ((s.store i).state ≠ .disabled →
        (0 < (s.store i).reserved ∨ (s.store i).holder ≠ none ∨ (s.store i).state = .refill) →
        ∃ t, exec (.disable .m (.fits f)) s = .next t ∧ Answered s t .m .disable .state [] ∧ Frame [.ports, .free] s t)
      ∧ ((s.store i).state ≠ .disabled → (s.store i).reserved = 0 → (s.store i).holder = none →
        (s.store i).state ≠ .refill →
        ∃ t, exec (.disable .m (.fits f)) s = .next t
          ∧ (t.store i).core = { (s.store i).core with state := .disabled }
          ∧ OtherStoreCores i s t ∧ t.storeBanks = s.storeBanks ∧ AnsweredCore s t .m .disable .done []
          ∧ (s.enginesRest →
            OtherStores i s t ∧ Answered s t .m .disable .done [] ∧ Frame [.stores, .bus, .reconciler, .ports, .free] s t)))
    ∧ (s.ready .m .enable →
      ((s.store i).cfg.present = false ∨ (s.store i).state = .jammed ∨ (s.store i).state = .offline
          ∨ (s.store i).state = .refill ∨ s.setupFault = true →
        ∃ t, exec (.enable .m (.fits f)) s = .next t ∧ Answered s t .m .enable .state [] ∧ Frame [.ports, .free] s t)
      ∧ ((s.store i).cfg.present = true → s.setupFault = false →
        ((s.store i).working = true →
          ∃ t, exec (.enable .m (.fits f)) s = .next t ∧ Answered s t .m .enable .done [] ∧ Frame [.ports, .free] s t)
        ∧ ((s.store i).state = .disabled →
          ∃ t, exec (.enable .m (.fits f)) s = .next t
            ∧ (t.store i).core
              = { (s.store i).core with
                  state := workingState (s.store i).count, unverified := true, settingsDue := true }
            ∧ OtherStoreCores i s t ∧ newWork i .statusRead [.status] ∈ t.reconciler.work
            ∧ t.reconciler.work.any (fun w => w.isSettings i) = true
            ∧ (t.reconciler.work ++ t.reconciler.deferred).any (fun w => w.readsBand i) = true
            ∧ AnsweredCore s t .m .enable .done []
            ∧ (s.enginesRest →
              OtherStores i s t ∧ Answered s t .m .enable .done []
                ∧ Frame [.stores, .bus, .reconciler, .ports, .free] s t)))))))

/-- R177, R11, R10, R12, R171: a STATUS reply's jam flag takes a working store to JAMMED with JAM, its door flag takes
the store OFFLINE with DOOR, HELD follows its held flag; CLEAR-FAULT empties the bank, and for a JAMMED or OFFLINE
store a STATUS follows, whose clean reply returns the store UNVERIFIED with DONE; a station outside 1 to 12 is refused
with RANGE. That CLEAR-FAULT's own STATUS
presents no COUNT-HIGH is the model's choice (log 34). -/
def Obligations.StatusRepliesAndClearFault : Prop :=
  ∀ (s : State) (station : BitVec 4) (w : Work) (rest : List Work) (held : Bool) (gate : Gate) (f : BankFields)
    (i : Station) (p : PointId),
    ((s.workOnWire station w rest .status → w.cause ≠ .startEject → (∀ q, w.cause ≠ .clearFault q) →
      (∃ t, exec (.status station true false held gate) s = .next t
        ∧ (t.store w.station).state
          = (if (s.store w.station).working then .jammed else (s.store w.station).state)
        ∧ (t.store w.station).count = (s.store w.station).count ∧ (t.store w.station).held = held
        ∧ (held = false ∨ 0 < (s.store w.station).count →
          t.storeBank w.station
            = (s.storeBank w.station).take
                ⟨.jam, s.time, some (s.store w.station).count, none, none, .reconciler, none⟩)
        ∧ OtherStoreCores w.station s t ∧ t.bus.exchange = none)
      ∧ (∃ t, exec (.status station false true held gate) s = .next t
        ∧ (t.store w.station).state = (s.store w.station).state.offlined ∧ (t.store w.station).held = held
        ∧ (held = false ∨ 0 < (s.store w.station).count →
          t.storeBank w.station
            = (s.storeBank w.station).take
                ⟨.door, s.time, some (s.store w.station).count, none, none, .reconciler, some 1⟩)
        ∧ OtherStoreCores w.station s t ∧ t.bus.exchange = none)
      ∧ (∃ t, exec (.status station false false held gate) s = .next t
        ∧ (t.store w.station).state = (s.store w.station).state ∧ (t.store w.station).held = held
        ∧ (gate = .unset → (t.store w.station).settingsDue = true)
        ∧ (held = true → (s.store w.station).count = 0 →
          t.storeBank w.station
            = (s.storeBank w.station).take
                ⟨.countHigh, s.time, some 0, some 0, some 1, .reconciler, some heldExtra⟩)
        ∧ (held = false ∨ 0 < (s.store w.station).count → t.storeBanks = s.storeBanks)
        ∧ OtherStoreCores w.station s t ∧ t.bus.exchange = none))
    ∧ (s.workOnWire station w rest .status → w.cause = .clearFault false →
      (s.store w.station).state = .jammed ∨ (s.store w.station).state = .offline →
      (∃ t, exec (.status station false false held gate) s = .next t
        ∧ (t.store w.station).state = workingState (s.store w.station).count ∧ (t.store w.station).unverified = true
        ∧ (t.store w.station).held = held ∧ (t.port .m).reply = some ⟨Cmd.code .clearFault, .done, []⟩
        ∧ t.storeBanks = s.storeBanks)
      ∧ (∃ t, exec (.status station true false held gate) s = .next t ∧ (t.store w.station).state = .jammed
        ∧ (t.port .m).reply = some ⟨Cmd.code .clearFault, .state, []⟩
        ∧ t.storeBank w.station
          = (s.storeBank w.station).take
              ⟨.jam, s.time, some (s.store w.station).count, none, none, .command, none⟩))
    ∧ (s.ready .m .clearFault → f.kind = 1#8 → stationOf f.number = none →
      ∃ t, exec (.clearFault .m (.fits f)) s = .next t ∧ Answered s t .m .clearFault .range []
        ∧ Frame [.ports, .free] s t)
    ∧ (s.ready .m .clearFault → f.kind = 1#8 → stationOf f.number = some i →
      (((s.store i).state = .jammed ∨ (s.store i).state = .offline) →
        ∃ t, exec (.clearFault .m (.fits f)) s = .next t ∧ t.storeBank i = ⟨false, none⟩
          ∧ (∀ j, j ≠ i → t.storeBank j = s.storeBank j)
          ∧ newWork i (.clearFault (s.port .m).quiet) [.status] ∈ t.reconciler.work
          ∧ (t.port .m).replyOwed = some .clearFault ∧ ∀ j, (t.store j).core = (s.store j).core)
      ∧ ((s.store i).state ≠ .jammed → (s.store i).state ≠ .offline →
        ∃ t, exec (.clearFault .m (.fits f)) s = .next t ∧ t.storeBank i = ⟨false, none⟩
          ∧ (∀ j, j ≠ i → t.storeBank j = s.storeBank j) ∧ Answered s t .m .clearFault .done []
          ∧ Frame [.storeBanks, .ports, .free] s t))
    ∧ (s.ready .m .clearFault → f.kind = 2#8 → Sys2Proof.Machine.pointOf f.number = some p →
      ∃ t, exec (.clearFault .m (.fits f)) s = .next t ∧ t.pointBank p = ⟨false, none⟩
        ∧ Answered s t .m .clearFault .done [] ∧ Frame [.pointBanks, .ports, .free] s t))

/-- R178, R179: a TALLY without an eject outstanding sets UNVERIFIED after a module restart or a difference of 128 or
more, and else counts the stray exits out with STRAY-EXIT. R174, R175: a BAND made for a store with no eject
outstanding and no item routed in the last 500 ms lowers a count above the band to its upper bound with COUNT-LOW,
keeps one below it with COUNT-HIGH, and clears UNVERIFIED; a count lowered latches STORE-LEVEL by its edges (R7). With an
eject outstanding or an item routed into the store in the last 500 ms the band is not compared, and the read, which is for
a service, a start-up read or a read of its own, is placed again; in REFILL the band is kept and not compared. R176: after
a final NONE a band that is not EMPTY then presents JAM, whatever the store's state (R8), and takes a working store to
JAMMED, while EMPTY leaves it EMPTY with count 0, and the engine's wait and its grant end. That an eject record kept
unreconciled in SETUP-FAULT counts as an eject outstanding, for a TALLY (log 41) and for a BAND (log 78), is the model's
choice. -/
def Obligations.TalliesAndBandsCorrectCounts : Prop :=
  ∀ (s : State) (station : BitVec 4) (w : Work) (rest : List Work) (value : Byte) (gate : Gate) (b : Band),
    ((s.workOnWire station w rest .tally → w.cause ≠ .startEject →
      ((s.store w.station).ejectRecord = none →
        (w.sawUnset = true ∨ 128 ≤ (value - (s.store w.station).moduleTally).toNat →
          ∃ t, exec (.tally station value gate) s = .next t ∧ (t.store w.station).moduleTally = value
            ∧ (t.store w.station).unverified = true ∧ (t.store w.station).count = (s.store w.station).count
            ∧ t.storeBanks = s.storeBanks ∧ OtherStoreCores w.station s t
            ∧ t.countMemory.newer.data.stations[w.station.val]'w.station.isLt = (t.store w.station).counts)
        ∧ (w.sawUnset = false → 0 < (value - (s.store w.station).moduleTally).toNat →
          (value - (s.store w.station).moduleTally).toNat < 128 →
          ∃ t, exec (.tally station value gate) s = .next t ∧ (t.store w.station).moduleTally = value
            ∧ (t.store w.station).count
              = (s.store w.station).count - (value - (s.store w.station).moduleTally).toNat
            ∧ (t.store w.station).outTally
              = (s.store w.station).outTally
                + BitVec.ofNat 32 (min (value - (s.store w.station).moduleTally).toNat (s.store w.station).count)
            ∧ t.storeBank w.station
              = (s.storeBank w.station).take
                  ⟨.strayExit, s.time, some (s.store w.station).count, some (s.store w.station).moduleTally.toNat,
                    some value.toNat, .reconciler, some (gateCode gate)⟩
            ∧ LevelLatched s t w.station keptFromNone ∧ OtherStoreCores w.station s t))
      ∧ ((s.store w.station).ejectRecord ≠ none ∨ (w.sawUnset = false ∧ value = (s.store w.station).moduleTally) →
        ∃ t, exec (.tally station value gate) s = .next t ∧ (∀ i, (t.store i).core = (s.store i).core)
          ∧ t.storeBanks = s.storeBanks ∧ t.countMemory = s.countMemory ∧ t.bus.exchange = none))
    ∧ (s.workOnWire station w rest .band →
      ((s.store w.station).state ≠ .refill → (s.store w.station).ejectRecord = none →
        (∀ at_, (s.store w.station).lastRouted = some at_ → 50 ≤ age s.time at_) →
        (bandUpper (s.store w.station).cfg b < (s.store w.station).count →
          ∃ t, exec (.band station (some b)) s = .next t
            ∧ (t.store w.station).count = bandUpper (s.store w.station).cfg b
            ∧ (t.store w.station).state
              = (if s.noneJams w b then .jammed
                 else if (s.store w.station).working then workingState (bandUpper (s.store w.station).cfg b)
                 else (s.store w.station).state)
            ∧ (t.store w.station).unverified = false ∧ (t.store w.station).bandLast = some (b, s.time)
            ∧ t.storeBank w.station
              = s.jamTaken w b (bandUpper (s.store w.station).cfg b)
                  ((s.storeBank w.station).take
                    ⟨.countLow, s.time, some (s.store w.station).count, some (s.store w.station).count,
                      some (bandUpper (s.store w.station).cfg b), .reconciler, some (bandCode b)⟩)
            ∧ LevelLatched s t w.station keptFromNone ∧ OtherStoreCores w.station s t)
        ∧ ((s.store w.station).count < bandLower (s.store w.station).cfg b →
          ∃ t, exec (.band station (some b)) s = .next t ∧ (t.store w.station).count = (s.store w.station).count
            ∧ (t.store w.station).state = (if s.noneJams w b then .jammed else (s.store w.station).state)
            ∧ (t.store w.station).unverified = false ∧ (t.store w.station).bandLast = some (b, s.time)
            ∧ t.storeBank w.station
              = s.jamTaken w b (s.store w.station).count
                  ((s.storeBank w.station).take
                    ⟨.countHigh, s.time, some (s.store w.station).count, some (s.store w.station).count,
                      some (bandLower (s.store w.station).cfg b), .reconciler, some (bandCode b)⟩)
            ∧ OtherStoreCores w.station s t ∧ t.countMemory = s.countMemory)
        ∧ (bandLower (s.store w.station).cfg b ≤ (s.store w.station).count →
          (s.store w.station).count ≤ bandUpper (s.store w.station).cfg b →
          ∃ t, exec (.band station (some b)) s = .next t
            ∧ (t.store w.station).core
              = { (s.store w.station).core with
                  bandLast := some (b, s.time), unverified := false
                  state := if s.noneJams w b then .jammed else (s.store w.station).state }
            ∧ t.storeBank w.station = s.jamTaken w b (s.store w.station).count (s.storeBank w.station)
            ∧ (∀ i, i ≠ w.station → t.storeBank i = s.storeBank i)
            ∧ OtherStoreCores w.station s t ∧ t.countMemory = s.countMemory)
        ∧ (∀ e, w.afterNone = true → (s.engine e).bandAwaited = some w.station → s.arbitersSound →
          listHas (s.payList e) w.station = false →
          ∃ t, exec (.band station (some b)) s = .next t ∧ (t.engine e).bandAwaited = none
            ∧ (t.store w.station).holder ≠ some e ∧ e ∉ (t.store w.station).waiting))
      ∧ ((s.store w.station).state = .refill →
        ∃ t, exec (.band station (some b)) s = .next t
          ∧ (t.store w.station).core = { (s.store w.station).core with bandLast := some (b, s.time) }
          ∧ t.storeBank w.station = s.jamTaken w b (s.store w.station).count (s.storeBank w.station)
          ∧ OtherStoreCores w.station s t ∧ t.countMemory = s.countMemory)
      ∧ ((s.store w.station).state ≠ .refill → (w.cause = .read ∨ w.cause = .service ∨ w.cause = .startBand) →
        s.enginesQuiet →
        (∀ x ∈ s.reconciler.work ++ s.reconciler.deferred, x.station = w.station → s.stays x) →
        ((s.store w.station).ejectRecord ≠ none
          ∨ (s.store w.station).lastRouted.any (fun at_ => decide (age s.time at_ < 50)) = true) →
        ∃ t, exec (.band station (some b)) s = .next t
          ∧ t.store w.station = { s.store w.station with bandLast := some (b, s.time) } ∧ OtherStores w.station s t
          ∧ (t.reconciler.work ++ t.reconciler.deferred).any (fun x => x.readsBand w.station) = true
          ∧ Frame [.stores, .bus, .reconciler] s t)))

/-- R174: a deferred band read is placed again once no eject is outstanding and 500 ms have passed, which the command
carries the time count forward to (the model's choice, log 13). R208, R209: the reads that reconcile an eject outstanding
at a reset: a PENDING RESULT is asked again, and a final one is not counted, nor is its held flag used (the model's
choice, log 67); HELD follows the STATUS. A TALLY after gate position UNSET or with a difference of 128 or more counts
nothing and sets UNVERIFIED; a smaller difference is counted out and charged by the record's destination, to the cashbox
or to the paid of the INTERRUPTED record bound to the engine's point, and 0 charges nothing. The eject record is cleared
in count memory. -/
def Obligations.DeferredReadsAndReconciliation : Prop :=
  ∀ (s : State) (i : Station) (station : BitVec 4) (w : Work) (rest : List Work) (outcome : EjectOutcome) (held : Bool)
    (value : Byte) (gate : Gate) (op : RecOp) (ops : List RecOp) (p : PointId) (j : Slot) (r : Rec) (first : Time) (n : Nat),
    ((s.reconciler.deferred.any (fun x => x.station == i) = true → (s.store i).ejectRecord = none → s.enginesQuiet →
      (∀ x ∈ s.reconciler.work ++ s.reconciler.deferred, x.station = i → s.stays x) →
      ∃ t, exec (.deferredBandRead i) s = .next t ∧ t.reconciler.deferred.any (fun x => x.station == i) = false
        ∧ ((s.reconciler.deferred.any (fun x => x.readsBand i)) = true →
            t.reconciler.work.any (fun x => x.readsBand i) = true)
        ∧ (∀ at_, (s.store i).lastRouted = some at_ → 50 ≤ age t.time at_) ∧ Frame [.time, .bus, .reconciler] s t)
    ∧ (w.cause = .startEject →
      (s.enginesQuiet → (∀ x ∈ w :: rest, s.stays x) →
        (s.workOnWire station w rest .result → w.ops = .result :: op :: ops →
          (∃ t, exec (.ejectReconciliation station (.result (some (outcome, held)))) s = .next t
            ∧ t.reconciler.work = { w with ops := op :: ops, paused := false } :: rest
            ∧ Frame [.bus, .reconciler] s t)
          ∧ (w.since = some first →
            ∃ t, exec (.ejectReconciliation station (.result none)) s = .next t
              ∧ t.reconciler.work
                = (if age s.time first < (s.store w.station).cfg.window + 20 then { w with paused := true }
                   else { w with ops := op :: ops, paused := false }) :: rest
              ∧ Frame [.bus, .reconciler] s t))
        ∧ (s.workOnWire station w rest .status → w.ops = .status :: op :: ops → gate ≠ .unset →
          (held = false ∨ 0 < (s.store w.station).count) →
          ∃ t, exec (.ejectReconciliation station (.status false false held gate)) s = .next t
            ∧ t.store w.station = { s.store w.station with held := held } ∧ OtherStores w.station s t
            ∧ t.reconciler.work = { w with ops := op :: ops, paused := false } :: rest
            ∧ Frame [.stores, .bus, .reconciler] s t))
      ∧ (s.workOnWire station w rest .tally →
        (w.sawUnset = true ∨ 128 ≤ (value - (s.store w.station).moduleTally).toNat →
          ∃ t, exec (.ejectReconciliation station (.tally value gate)) s = .next t
            ∧ (t.store w.station).core
              = { (s.store w.station).core with moduleTally := value, unverified := true, ejectRecord := none }
            ∧ t.countMemory.newer.data.stations[w.station.val]'w.station.isLt = (t.store w.station).counts
            ∧ OtherStoreCores w.station s t ∧ t.storeBanks = s.storeBanks ∧ t.cashbox = s.cashbox)
        ∧ (w.sawUnset = false → n = (value - (s.store w.station).moduleTally).toNat → n < 128 →
          ∃ t, exec (.ejectReconciliation station (.tally value gate)) s = .next t
            ∧ (t.store w.station).count = (s.store w.station).count - n
            ∧ (t.store w.station).outTally
              = (s.store w.station).outTally + BitVec.ofNat 32 (min n (s.store w.station).count)
            ∧ (t.store w.station).moduleTally = value ∧ (t.store w.station).ejectRecord = none
            ∧ (t.store w.station).unverified = (s.store w.station).unverified
            ∧ t.countMemory.newer.data.stations[w.station.val]'w.station.isLt = (t.store w.station).counts
            ∧ OtherStoreCores w.station s t ∧ t.storeBanks = s.storeBanks
            ∧ ((s.store w.station).ejectRecord = some ⟨.m, .cashbox⟩ → s.boxAgrees → s.cashbox.state ≠ .removed →
              s.cashbox.count + n ≤ 65535 →
              s.cashbox.value + n * (s.store w.station).cfg.denomination ≤ 9999999 →
              t.cashbox.count = s.cashbox.count + n
                ∧ t.cashbox.value = s.cashbox.value + n * (s.store w.station).cfg.denomination)
            ∧ ((s.store w.station).ejectRecord = some ⟨pointEngine p, engineDest (pointEngine p)⟩ →
              s.slot j = some r → (s.point p).binding = .record r.tag → r.state = .interrupted → s.tagsDistinct →
              s.enginesRest →
              (n = 0 → t.slot j = some r ∧ t.cashbox = s.cashbox)
              ∧ (0 < n →
                t.slot j = some { r with paid := min (r.paid + n * (s.store w.station).cfg.denomination) 99999 }
                  ∧ t.cashbox = s.cashbox))))))

/-! ## Set-up and reports (11, 12) -/

/-- R18, R5, R199 to R201: SET-STORE, SET-POINT and SET-SYSTEM store the named fields with the others kept, brought into
range, in the working copy, which is then marked unsaved where it changed, and answer DONE with the report of what is
stored; level edges latch STORE-LEVEL and a change of the cashbox's state its events, kept from Port M under QUIET (R7,
R163, R193). A station or a denomination out of range, five present stores of one denomination, or a unit not of the four is
refused with RANGE; a restricted field of a store outside DISABLED, or the unit while a record is live, with STATE. That
RANGE is answered where both apply is the model's choice (log 58), and that the byte of a yes or no is 1 or 0 its reading
(log 20); absent fields of the report are free (log 9). -/
def Obligations.SetUpCommandsStoreTheirFields : Prop :=
  ∀ (s : State) (f : SetStoreFields) (i : Station) (g : SetPointFields) (p : PointId) (h : SetSystemFields),
    ((s.ready .m .setStore → (∀ b, f.present = some b → (boolOf b).isSome = true) →
      (∀ b, f.kind = some b → (storeKindOf b).isSome = true) → (∀ b, f.edge = some b → (edgeOf b).isSome = true) →
      (∀ b, f.staging = some b → (boolOf b).isSome = true) →
      ((stationOf f.station = none ∨ (stationOf f.station = some i ∧ s.setStoreFits i f = false)) →
        ∃ t, exec (.setStore .m (.fits f)) s = .next t ∧ Answered s t .m .setStore .range []
          ∧ Frame [.ports, .free] s t)
      ∧ (stationOf f.station = some i → s.setStoreFits i f = true →
      (((s.store i).cfg.restricted ((s.store i).cfg.changed f) f = true ∧ (s.store i).state ≠ .disabled) →
        ∃ t, exec (.setStore .m (.fits f)) s = .next t ∧ Answered s t .m .setStore .state []
          ∧ Frame [.ports, .free] s t)
      ∧ (((s.store i).cfg.restricted ((s.store i).cfg.changed f) f = false ∨ (s.store i).state = .disabled) →
        ∃ t, exec (.setStore .m (.fits f)) s = .next t
          ∧ (t.store i).cfg.inOrder ∧ (t.store i).cfg.capacity
            = max (min (max (((f.capacity.map BitVec.toNat).getD (s.store i).cfg.capacity)) 1) 2000) (s.store i).count
          ∧ (t.store i).cfg.denomination = (f.denomination.map BitVec.toNat).getD (s.store i).cfg.denomination
          ∧ (t.store i).cfg.present = ((f.present.bind boolOf).getD (s.store i).cfg.present)
          ∧ (t.store i).cfg.kind = (f.kind.bind storeKindOf).getD (s.store i).cfg.kind
          ∧ (t.store i).cfg.edge = (f.edge.bind edgeOf).getD (s.store i).cfg.edge
          ∧ (t.store i).cfg.staging = (f.staging.bind boolOf).getD (s.store i).cfg.staging
          ∧ (t.store i).cfg.routeLimit
            = min (max ((f.routeLimit.map BitVec.toNat).getD (s.store i).cfg.routeLimit) 1) (t.store i).cfg.capacity
          ∧ (t.store i).cfg.high
            = min (max ((f.high.map BitVec.toNat).getD (s.store i).cfg.high) 1) (t.store i).cfg.routeLimit
          ∧ (t.store i).cfg.low
            = min ((f.low.map BitVec.toNat).getD (s.store i).cfg.low) ((t.store i).cfg.high - 1)
          ∧ (t.store i).cfg.floor
            = min ((f.floor.map BitVec.toNat).getD (s.store i).cfg.floor) (t.store i).cfg.capacity
          ∧ (t.store i).cfg.window
            = min (max ((f.window.map BitVec.toNat).getD
                (if (t.store i).cfg.kind = (s.store i).cfg.kind then (s.store i).cfg.window
                 else match (t.store i).cfg.kind with | .coin => 30 | .note => 90)) 10) 200
          ∧ (t.store i).count = (s.store i).count ∧ (t.store i).state = (s.store i).state
          ∧ (f.baseline = true → (t.store i).inTally = 0 ∧ (t.store i).outTally = 0)
          ∧ (f.baseline = false → (t.store i).inTally = (s.store i).inTally
              ∧ (t.store i).outTally = (s.store i).outTally ∧ t.countMemory = s.countMemory)
          ∧ (t.unsaved = (s.unsaved || decide ((t.store i).cfg ≠ (s.store i).cfg)))
          ∧ LevelLatched s t i (keptFromM (s.port .m).quiet)
          ∧ OtherStoreCores i s t ∧ t.setupBlock = s.setupBlock ∧ t.system = s.system ∧ t.pointSetup = s.pointSetup
          ∧ (s.enginesQuiet → AnsweredCore s t .m .setStore .done ((t.setFree s.free).storeReport i)))))
    ∧ (s.ready .m .setPoint → Sys2Proof.Machine.pointOf g.point = some p →
      (∀ b, g.mode = some b → (payModeOf b).isSome = true) → (∀ b, g.short = some b → (boolOf b).isSome = true) →
      ∃ t, exec (.setPoint .m (.fits g)) s = .next t
        ∧ t.setup p
          = { mode := (g.mode.bind payModeOf).getD (s.setup p).mode
              short := (g.short.bind boolOf).getD (s.setup p).short
              retry := min ((g.retry.map BitVec.toNat).getD (s.setup p).retry) 7
              itemsLimit := min (max ((g.itemsLimit.map BitVec.toNat).getD (s.setup p).itemsLimit) 1) 100
              inhibit := min (max ((g.inhibit.map BitVec.toNat).getD (s.setup p).inhibit) 4) 15 }
        ∧ (∀ q, q ≠ p → t.setup q = s.setup q) ∧ t.unsaved = (s.unsaved || decide (t.setup p ≠ s.setup p))
        ∧ Answered s t .m .setPoint .done (t.setup p).bytes ∧ Frame [.pointSetup, .unsaved, .ports, .free] s t)
    ∧ (s.ready .m .setSystem → (∀ m, h.attention = some m → m.toNat < 4096) →
      ((∃ u, h.unit = some u ∧ u ≠ 1#8 ∧ u ≠ 2#8 ∧ u ≠ 5#8 ∧ u ≠ 10#8) →
        ∃ t, exec (.setSystem .m (.fits h)) s = .next t ∧ Answered s t .m .setSystem .range []
          ∧ Frame [.ports, .free] s t)
      ∧ (setSystemFits h = true → s.unitHeld h = true →
        ∃ t, exec (.setSystem .m (.fits h)) s = .next t ∧ Answered s t .m .setSystem .state []
          ∧ Frame [.ports, .free] s t)
      ∧ (setSystemFits h = true → s.unitHeld h = false →
      ∃ t, exec (.setSystem .m (.fits h)) s = .next t
        ∧ t.system
          = { unit := (h.unit.map BitVec.toNat).getD s.system.unit
              hold := min (max ((h.hold.map BitVec.toNat).getD s.system.hold) 30) 900
              boxCapacity := min (max ((h.boxCapacity.map BitVec.toNat).getD s.system.boxCapacity) 1) 5000
              boxNearFull :=
                min (max ((h.boxNearFull.map BitVec.toNat).getD s.system.boxNearFull) 1) t.system.boxCapacity
              attention := (h.attention.map (BitVec.setWidth 12)).getD s.system.attention }
        ∧ t.unsaved = (s.unsaved || decide (t.system ≠ s.system)) ∧ t.boxAgrees
        ∧ BoxLatched s t (keptFromM (s.port .m).quiet)
        ∧ (∀ j, (t.store j).core = (s.store j).core) ∧ t.setupBlock = s.setupBlock
        ∧ AnsweredCore s t .m .setSystem .done t.system.bytes)))

/-- R19, R47, R48, R106, R165, R170, R196: the queries answer DONE with their report, which fits a reply's body
(R184), and change nothing else; a station or a slot out of range is refused with RANGE. The report is the one the model's
report functions give. That QUERY-POINT takes any first entry with a part that is not paged (log 24), a first entry past
the queue's end that gives no entries (log 70), which bit of the excluded stores is which station (log 71), the plan
cursor that is the first entry's station (log 45), that the pinned mark stands in the MONEY part alone (log 74), that
LIST-RECORDS' next page begins at the slot of the next live record (log 50), that READ-FAULT sends 0 as the extra of a JAM
without a band (log 42), that READ-EVENTS' attention line byte is 1 while active and 0 while not (log 20), and that
the release owed count is shown modulo 256 (log 79) are the model's choices; bytes of absent fields are free (log 9). -/
def Obligations.QueriesReportAndChangeNothing : Prop :=
  ∀ (s : State) (port : PortId) (f : QueryRecordFields) (i : Slot) (r : Rec) (b : ByteFields) (from_ : Slot)
    (g : QueryPointFields) (p : PointId) (st : Station) (k : BankFields) (x : NoFields),
    ((s.ready port .queryRecord → s.holds f.tag i r →
      (((f.part = 1#8 ∨ f.part = 3#8) ∧ f.first = 0#8) ∨ (f.part = 2#8 ∧ f.first.toNat ≤ 11)) →
      ∃ t, exec (.queryRecord port (.fits f)) s = .next t
        ∧ Answered s t port .queryRecord .done (s.recordPart i r f.part f.first)
        ∧ (s.recordPart i r f.part f.first).length ≤ 39 ∧ Frame [.ports, .free] s t)
    ∧ (s.ready port .listRecords → slotOf b.value = none →
      ∃ t, exec (.listRecords port (.fits b)) s = .next t ∧ Answered s t port .listRecords .range []
        ∧ Frame [.ports, .free] s t)
    ∧ (s.ready port .queryStore → stationOf b.value = none →
      ∃ t, exec (.queryStore port (.fits b)) s = .next t ∧ Answered s t port .queryStore .range []
        ∧ Frame [.ports, .free] s t)
    ∧ (s.ready port .readFault → k.kind = 1#8 → stationOf k.number = none →
      ∃ t, exec (.readFault port (.fits k)) s = .next t ∧ Answered s t port .readFault .range []
        ∧ Frame [.ports, .free] s t)
    ∧ (s.ready port .listRecords → slotOf b.value = some from_ →
      ∃ t, exec (.listRecords port (.fits b)) s = .next t ∧ Answered s t port .listRecords .done (s.listPage from_)
        ∧ (s.listPage from_).length ≤ 39 ∧ Frame [.ports, .free] s t)
    ∧ (s.ready port .queryPoint → Sys2Proof.Machine.pointOf g.point = some p →
      (g.part = 1#8 ∨ g.part = 2#8 ∨ g.part = 3#8 ∨ g.part = 4#8) →
      ((s.point p).recognised.getD []).length ≤ 16 →
      ∃ t, exec (.queryPoint port (.fits g)) s = .next t
        ∧ Answered s t port .queryPoint .done (s.pointReport p g.part g.first)
        ∧ (s.pointReport p g.part g.first).length ≤ 39 ∧ Frame [.ports, .free] s t)
    ∧ (s.ready port .queryStore → stationOf b.value = some st →
      ∃ t, exec (.queryStore port (.fits b)) s = .next t ∧ Answered s t port .queryStore .done (s.storeReport st)
        ∧ (s.storeReport st).length = 39 ∧ Frame [.ports, .free] s t)
    ∧ (s.ready port .queryCashbox →
      ∃ t, exec (.queryCashbox port (.fits x)) s = .next t ∧ Answered s t port .queryCashbox .done s.cashboxReport
        ∧ s.cashboxReport.length ≤ 39 ∧ Frame [.ports, .free] s t)
    ∧ (s.ready port .readFault → k.kind = 1#8 → stationOf k.number = some st →
      ∃ t, exec (.readFault port (.fits k)) s = .next t
        ∧ Answered s t port .readFault .done (s.storeFaultReport st) ∧ (s.storeFaultReport st).length ≤ 39
        ∧ Frame [.ports, .free] s t)
    ∧ (s.ready port .readFault → k.kind = 2#8 → Sys2Proof.Machine.pointOf k.number = some p →
      ∃ t, exec (.readFault port (.fits k)) s = .next t
        ∧ Answered s t port .readFault .done (s.pointFaultReport p) ∧ (s.pointFaultReport p).length ≤ 39
        ∧ Frame [.ports, .free] s t)
    ∧ (s.ready port .readEvents →
      ∃ t, exec (.readEvents port (.fits x)) s = .next t
        ∧ Answered s t port .readEvents .done
            (bytesOf 2 (s.port port).latched.toNat ++ bytesOf 2 (s.port port).mask.toNat
              ++ [if (s.port port).latched &&& (s.port port).mask = 0#16 then 0#8 else 1#8])
        ∧ Frame [.ports, .free] s t))

/-- R196 to R198, R202, R206: CLEAR-EVENTS removes the kinds given from its own port's set, but for the level-type
kinds whose condition holds; SET-MASK replaces its port's mask; bit 15 names no kind; SAVE-SETUP writes the working
copy with its check and answers by the read-back; READ-CAUSE returns the flags and clears them; RESET is answered
before its reset. What the memory does with SAVE-SETUP's write (log 27) and the mark that a LINK reset is to come (log
8) are the model's choices. -/
def Obligations.EventAndSystemCommands : Prop :=
  ∀ (s : State) (port : PortId) (f : KindsFields) (x : NoFields),
    ((s.ready port .clearEvents →
      (f.kinds.getLsbD 15 = true →
        ∃ t, exec (.clearEvents port (.fits f)) s = .next t ∧ Turned s t port (Cmd.code .clearEvents) .range)
      ∧ (f.kinds.getLsbD 15 = false →
        ∃ t, exec (.clearEvents port (.fits f)) s = .next t
          ∧ (∀ k : Event, (t.port port).latched.getLsbD k.index = true ↔
              (s.port port).latched.getLsbD k.index = true ∧ (f.kinds.getLsbD k.index = false ∨ s.levelHolds k = true))
          ∧ (t.port port).reply = some ⟨Cmd.code .clearEvents, .done, bytesOf 2 (t.port port).latched.toNat⟩
          ∧ OtherPorts port s t ∧ Frame [.ports, .free] s t))
    ∧ (s.ready port .setMask →
      (f.kinds.getLsbD 15 = true →
        ∃ t, exec (.setMask port (.fits f)) s = .next t ∧ Turned s t port (Cmd.code .setMask) .range)
      ∧ (f.kinds.getLsbD 15 = false →
        ∃ t, exec (.setMask port (.fits f)) s = .next t ∧ (t.port port).mask = f.kinds
          ∧ (t.port port).latched = (s.port port).latched
          ∧ (t.port port).reply = some ⟨Cmd.code .setMask, .done, bytesOf 2 f.kinds.toNat⟩
          ∧ OtherPorts port s t ∧ Frame [.ports, .free] s t))
    ∧ (s.ready .m .saveSetup →
      (∃ t, exec (.saveSetup .m (.fits x) .landed) s = .next t ∧ t.setupBlock.good = true
        ∧ t.setupBlock.data = ⟨s.stores.map Store.cfg, s.pointSetup, s.system⟩ ∧ t.unsaved = false
        ∧ Answered s t .m .saveSetup .done [] ∧ Frame [.setupBlock, .unsaved, .ports, .free] s t)
      ∧ (∃ t, exec (.saveSetup .m (.fits x) .badRead) s = .next t ∧ t.setupBlock.good = true
        ∧ t.setupBlock.data = ⟨s.stores.map Store.cfg, s.pointSetup, s.system⟩
        ∧ Answered s t .m .saveSetup .state [] ∧ Frame [.setupBlock, .ports, .free] s t)
      ∧ (∃ t, exec (.saveSetup .m (.fits x) .badBlock) s = .next t ∧ t.setupBlock.good = false
        ∧ Answered s t .m .saveSetup .state [] ∧ Frame [.setupBlock, .ports, .free] s t))
    ∧ (s.ready .m .readCause →
      ∃ t, exec (.readCause .m (.fits x)) s = .next t ∧ t.causes = ⟨false, false, false, false⟩ ∧ t.countLost = false
        ∧ Answered s t .m .readCause .done s.causeReport ∧ Frame [.causes, .countLost, .ports, .free] s t)
    ∧ (s.ready .m .resetCommand →
      ∃ t, exec (.resetCommand .m (.fits x)) s = .next t
        ∧ t.startUp = { s.startUp with resetPending := true } ∧ Answered s t .m .resetCommand .done []
        ∧ Frame [.startUp, .ports, .free] s t))

/-! ## The lane link (10) -/

/-- R183, R184, R186 to R188, R210: a command frame met by a reply owed or being sent is discarded; before its own
rule a command is answered BUSY during start-up but for four, SETUP-FAULT in SETUP-FAULT where the port may not send
it, PRIVILEGE on a window's port that may not, and RANGE where its body does not fit or a byte or bit in it has no
meaning in the tables, in this order; nothing but the reply and the port's qualifiers changes, and no reply is owed.
That a frame met by a reply that is not owed is lost whole, and that a yes or no is 1 or 0, are the model's readings
(logs 19 and 20). -/
def Obligations.FramesAreCheckedInOrder : Prop :=
  ∀ (c : Instr) (p : PortId) (k : Cmd) (s : State), c.command = some (p, k) →
    (((s.port p).replyOwed ≠ none ∨ (s.port p).reply ≠ none → ∃ t, exec c s = .next t ∧ Frame [] s t)
    ∧ ((s.port p).replyOwed = none → (s.port p).reply = none → s.startUp.ended = false → k.duringStartUp = false →
      ∃ t, exec c s = .next t ∧ Turned s t p k.code .busy)
    ∧ ((s.port p).replyOwed = none → (s.port p).reply = none → (s.startUp.ended = true ∨ k.duringStartUp = true) →
      s.setupFault = true → (p ≠ .m ∨ k.duringSetupFault = false) →
      ∃ t, exec c s = .next t ∧ Turned s t p k.code .setUpFault)
    ∧ ((s.port p).replyOwed = none → (s.port p).reply = none → (s.startUp.ended = true ∨ k.duringStartUp = true) →
      s.setupFault = false → p ≠ .m → k.openToWindows = false →
      ∃ t, exec c s = .next t ∧ Turned s t p k.code .privilege)
    ∧ (s.ready p k → c.misfits = true → ∃ t, exec c s = .next t ∧ Turned s t p k.code .range))

/-- R183 to R186, R190 to R193: on a port that owes and sends no reply AS-POINT and QUIET leave their qualifier for
the next command, a qualifier whose body does not fit, an AS-POINT that names no point and a QUIET with a body are
answered RANGE and leave what is pending, a frame of no meaning UNKNOWN, one with a bad
check or a length above 40 CHECK with the qualifiers dropped; a gap between bytes discards the partial frame, a frame
met by a reply owed or being sent is discarded, and the end of a reply frees its port. The time of the gap (log 13),
frames that arrive whole (log 18), the code byte of the CHECK reply to a bad length, which is free (log 9), and that a
frame met by a reply that is not owed is lost (log 19) are the model's choices. -/
def Obligations.OtherFramesAndReplies : Prop :=
  ∀ (s : State) (p : PortId) (f : ByteFields) (q : PointId) (x : NoFields) (kind code length : Byte),
    ((s.port p).replyOwed = none → (s.port p).reply = none →
      ((Sys2Proof.Machine.pointOf f.value = some q →
        ∃ t, exec (.asPoint p (.fits f)) s = .next t
          ∧ t.port p
            = { s.port p with
                assembly := .idle, lastByteAt := none, asPoint := some q
                reply := some ⟨asPointCode, .done, []⟩ }
          ∧ OtherPorts p s t ∧ Frame [.ports, .free] s t)
      ∧ (∃ t, exec (.asPoint p .misfit) s = .next t
        ∧ t.port p
          = { s.port p with assembly := .idle, lastByteAt := none, reply := some ⟨asPointCode, .range, []⟩ }
        ∧ OtherPorts p s t ∧ Frame [.ports, .free] s t)
      ∧ (f.value ≠ 1#8 → f.value ≠ 2#8 →
        ∃ t, exec (.asPoint p (.fits f)) s = .next t
          ∧ t.port p
            = { s.port p with assembly := .idle, lastByteAt := none, reply := some ⟨asPointCode, .range, []⟩ }
          ∧ OtherPorts p s t ∧ Frame [.ports, .free] s t)
      ∧ (∃ t, exec (.quiet p .misfit) s = .next t
        ∧ t.port p
          = { s.port p with assembly := .idle, lastByteAt := none, reply := some ⟨quietCode, .range, []⟩ }
        ∧ OtherPorts p s t ∧ Frame [.ports, .free] s t)
      ∧ (∃ t, exec (.quiet p (.fits x)) s = .next t
        ∧ t.port p
          = { s.port p with
              assembly := .idle, lastByteAt := none, quiet := true, reply := some ⟨quietCode, .done, []⟩ }
        ∧ OtherPorts p s t ∧ Frame [.ports, .free] s t)
      ∧ (knownFrame kind code = false →
        ∃ t, exec (.unknown p kind code) s = .next t
          ∧ t.port p
            = { s.port p with
                assembly := .idle, lastByteAt := none
                asPoint := if kind = commandKind then none else (s.port p).asPoint
                quiet := if kind = commandKind then false else (s.port p).quiet
                reply := some ⟨code, .unknown, []⟩ }
          ∧ OtherPorts p s t ∧ Frame [.ports, .free] s t)
      ∧ (∃ t, exec (.check p code) s = .next t ∧ Turned s t p code .check)
      ∧ (40 < length.toNat →
        ∃ t, exec (.lengthSilence p length) s = .next t ∧ Turned s t p (Config.filler s.free 0) .check)))
    ∧ (∃ t, exec (.interByteGap p) s = .next t
      ∧ t.port p = { s.port p with assembly := .idle, lastByteAt := none }
      ∧ (∀ at_, (s.port p).lastByteAt = some at_ → 5 ≤ age t.time at_) ∧ OtherPorts p s t ∧ Frame [.time, .ports] s t)
    ∧ (∃ t, exec (.frameWhileReplyOwed p) s = .next t ∧ Frame [] s t)
    ∧ ((s.port p).replyOwed ≠ none ∨ (s.port p).reply ≠ none →
      (∃ t, exec (.asPoint p (.fits f)) s = .next t ∧ Frame [] s t)
      ∧ (∃ t, exec (.quiet p (.fits x)) s = .next t ∧ Frame [] s t)
      ∧ (∃ t, exec (.unknown p kind code) s = .next t ∧ Frame [] s t)
      ∧ (∃ t, exec (.check p code) s = .next t ∧ Frame [] s t)
      ∧ (∃ t, exec (.lengthSilence p length) s = .next t ∧ Frame [] s t))
    ∧ ((s.port p).reply ≠ none →
      ∃ t, exec (.replySent p) s = .next t ∧ t.port p = { s.port p with replyOwed := none, reply := none }
        ∧ OtherPorts p s t ∧ Frame [.ports] s t)

/-! ## Resets and start-up (11) -/

/-- R23, R49, R108, R134, R198, R199, R203 to R206: POWER and BROWNOUT empty the record table and take the set-up block and the
newer good copy of count memory, or the factory defaults and blank counts with their flags; a present store is then
ACTIVE or EMPTY by count, an absent one DISABLED. PIN, and LINK once a
RESET's reply has left, keep the records, with PAYING ones INTERRUPTED and their lists released, the counts and the
time count. Every reset leaves the engines IDLE, every port with RESTART latched and every kind in its mask, and
start-up begun. What stands in the memories and on the sensor comes as the command's operands (log 31), LINK has no
effect but after a RESET and its reply (log 8), and a live record keeps its owed though U is loaded again (log 59), and a
SETTLED one its list and planned though its stores' denominations are (log 73): the model's choices. -/
def Obligations.ResetsLeaveWhatTheyKeep : Prop :=
  ∀ (s : State) (together : Causes) (sensor : Presence) (damage : Damage) (flag bad : Bool) (i : Station) (j : Slot),
    ((∃ t, exec (.power together sensor damage) s = .next t ∧ PoweredUp s t sensor damage
        ∧ t.causes = { together with power := true })
    ∧ (∃ t, exec (.brownout together sensor damage) s = .next t ∧ PoweredUp s t sensor damage
        ∧ t.causes = { together with brownout := true })
    ∧ (∃ t, exec (.pin flag bad) s = .next t ∧ Restarted s t bad i j
        ∧ t.causes = { s.causes with pin := true, link := s.causes.link || flag })
    ∧ (s.startUp.resetPending = true → (s.port .m).replyOwed ≠ some .resetCommand →
      ∃ t, exec (.link flag bad) s = .next t ∧ Restarted s t bad i j
        ∧ t.causes = { s.causes with link := true, pin := s.causes.pin || flag })
    ∧ (s.startUp.resetPending = false ∨ (s.port .m).replyOwed = some .resetCommand →
      ∃ t, exec (.link flag bad) s = .next t ∧ Frame [] s t))

/-- R150, R207, R78, R166, R198: the module settle wait ends 300 ms after the reset, and the bus goes to the first of
the requests that wait, in their fixed order. Start-up ends once its exchanges are made: each line is sent IDENTIFY
and is STARTING, a record whose lapse at has passed lapses with RESERVATION-LAPSED, and the level-type kinds whose
condition holds are latched. The settle wait's command carries the time count forward to its end (log 13), and a
command of the end of start-up before its exchanges have ended has no effect (log 11): the model's choices. -/
def Obligations.StartUpEnds : Prop :=
  ∀ (s : State) (p : PointId) (i : Slot) (r : Rec) (moment : Time) (first : Requester),
    ((s.startUp.settling = true → s.enginesRest →
      ∃ t, exec .moduleSettleWait s = .next t ∧ t.startUp = { s.startUp with settling := false }
        ∧ 30 ≤ age t.time s.startUp.resetEnd ∧ Frame [.time, .bus, .reconciler, .startUp] s t
        ∧ (s.bus.holder = none → s.bus.round = [] → first ∈ s.bus.waiting →
          (∀ x ∈ s.bus.waiting, requesterOrder.findIdx (· == first) ≤ requesterOrder.findIdx (· == x)) →
          (first = .reconciler → ∃ w ∈ s.reconciler.work, s.stays w) →
          t.bus.holder = some first ∧ t.bus.exchange = none ∧ t.bus.polling = false))
    ∧ (s.startUpDone = true → s.enginesRest →
      ∃ t, exec .endOfStartUp s = .next t ∧ t.startUp = { s.startUp with ended := true }
        ∧ (t.point p).line = .starting ∧ (t.point p).watch = some s.time ∧ .identify ∈ (t.point p).sent
        ∧ (∀ k, k = .storeFault ∨ k = .cashboxFull ∨ k = .cashboxRemoved → s.levelHolds k = true →
            ∀ q, (t.port q).latched &&& k.mask = k.mask)
        ∧ (s.slot i = some r → r.state = .settled → r.lapseAt = some moment → s.tagsDistinct →
          (reached s.time moment = true →
            (∀ x, t.slot i = some x → x.list = [] ∧ x.state ≠ .settled)
              ∧ ∀ q, (t.port q).latched &&& Event.reservationLapsed.mask = Event.reservationLapsed.mask)
          ∧ (reached s.time moment = false → (s.point p).queue = [] → (s.point (otherPoint p)).queue = [] →
            t.slot i = s.slot i))
        ∧ t.cashbox = s.cashbox ∧ t.storeBanks = s.storeBanks ∧ t.countMemory = s.countMemory)
    ∧ (s.startUpDone = false → ∃ t, exec .endOfStartUp s = .next t ∧ Frame [] s t))
end

