-- ==== Sys2Proof/Laws/State.lean ====
section
/-! SUPPORT. What each update of the state does to each field, and reading back what was written. -/

namespace Sys2Proof.Machine

/-! ### setStore -/

@[simp] theorem State.setStore_pending (s : State) (i : Station) (x : Store) : (s.setStore i x).pending = s.pending := rfl
@[simp] theorem State.setStore_time (s : State) (i : Station) (x : Store) : (s.setStore i x).time = s.time := rfl
@[simp] theorem State.setStore_records (s : State) (i : Station) (x : Store) : (s.setStore i x).records = s.records := rfl
@[simp] theorem State.setStore_stores (s : State) (i : Station) (x : Store) : (s.setStore i x).stores = s.stores.set i.val x i.isLt := rfl
@[simp] theorem State.setStore_points (s : State) (i : Station) (x : Store) : (s.setStore i x).points = s.points := rfl
@[simp] theorem State.setStore_engines (s : State) (i : Station) (x : Store) : (s.setStore i x).engines = s.engines := rfl
@[simp] theorem State.setStore_bus (s : State) (i : Station) (x : Store) : (s.setStore i x).bus = s.bus := rfl
@[simp] theorem State.setStore_reconciler (s : State) (i : Station) (x : Store) : (s.setStore i x).reconciler = s.reconciler := rfl
@[simp] theorem State.setStore_storeBanks (s : State) (i : Station) (x : Store) : (s.setStore i x).storeBanks = s.storeBanks := rfl
@[simp] theorem State.setStore_pointBanks (s : State) (i : Station) (x : Store) : (s.setStore i x).pointBanks = s.pointBanks := rfl
@[simp] theorem State.setStore_cashbox (s : State) (i : Station) (x : Store) : (s.setStore i x).cashbox = s.cashbox := rfl
@[simp] theorem State.setStore_ports (s : State) (i : Station) (x : Store) : (s.setStore i x).ports = s.ports := rfl
@[simp] theorem State.setStore_pointSetup (s : State) (i : Station) (x : Store) : (s.setStore i x).pointSetup = s.pointSetup := rfl
@[simp] theorem State.setStore_system (s : State) (i : Station) (x : Store) : (s.setStore i x).system = s.system := rfl
@[simp] theorem State.setStore_setupBlock (s : State) (i : Station) (x : Store) : (s.setStore i x).setupBlock = s.setupBlock := rfl
@[simp] theorem State.setStore_unsaved (s : State) (i : Station) (x : Store) : (s.setStore i x).unsaved = s.unsaved := rfl
@[simp] theorem State.setStore_setupFault (s : State) (i : Station) (x : Store) : (s.setStore i x).setupFault = s.setupFault := rfl
@[simp] theorem State.setStore_countMemory (s : State) (i : Station) (x : Store) : (s.setStore i x).countMemory = s.countMemory := rfl
@[simp] theorem State.setStore_countLost (s : State) (i : Station) (x : Store) : (s.setStore i x).countLost = s.countLost := rfl
@[simp] theorem State.setStore_causes (s : State) (i : Station) (x : Store) : (s.setStore i x).causes = s.causes := rfl
@[simp] theorem State.setStore_startUp (s : State) (i : Station) (x : Store) : (s.setStore i x).startUp = s.startUp := rfl
@[simp] theorem State.setStore_free (s : State) (i : Station) (x : Store) : (s.setStore i x).free = s.free := rfl

/-! ### setSlot -/

@[simp] theorem State.setSlot_pending (s : State) (i : Slot) (x : Option Rec) : (s.setSlot i x).pending = s.pending := rfl
@[simp] theorem State.setSlot_time (s : State) (i : Slot) (x : Option Rec) : (s.setSlot i x).time = s.time := rfl
@[simp] theorem State.setSlot_records (s : State) (i : Slot) (x : Option Rec) : (s.setSlot i x).records = s.records.set i.val x i.isLt := rfl
@[simp] theorem State.setSlot_stores (s : State) (i : Slot) (x : Option Rec) : (s.setSlot i x).stores = s.stores := rfl
@[simp] theorem State.setSlot_points (s : State) (i : Slot) (x : Option Rec) : (s.setSlot i x).points = s.points := rfl
@[simp] theorem State.setSlot_engines (s : State) (i : Slot) (x : Option Rec) : (s.setSlot i x).engines = s.engines := rfl
@[simp] theorem State.setSlot_bus (s : State) (i : Slot) (x : Option Rec) : (s.setSlot i x).bus = s.bus := rfl
@[simp] theorem State.setSlot_reconciler (s : State) (i : Slot) (x : Option Rec) : (s.setSlot i x).reconciler = s.reconciler := rfl
@[simp] theorem State.setSlot_storeBanks (s : State) (i : Slot) (x : Option Rec) : (s.setSlot i x).storeBanks = s.storeBanks := rfl
@[simp] theorem State.setSlot_pointBanks (s : State) (i : Slot) (x : Option Rec) : (s.setSlot i x).pointBanks = s.pointBanks := rfl
@[simp] theorem State.setSlot_cashbox (s : State) (i : Slot) (x : Option Rec) : (s.setSlot i x).cashbox = s.cashbox := rfl
@[simp] theorem State.setSlot_ports (s : State) (i : Slot) (x : Option Rec) : (s.setSlot i x).ports = s.ports := rfl
@[simp] theorem State.setSlot_pointSetup (s : State) (i : Slot) (x : Option Rec) : (s.setSlot i x).pointSetup = s.pointSetup := rfl
@[simp] theorem State.setSlot_system (s : State) (i : Slot) (x : Option Rec) : (s.setSlot i x).system = s.system := rfl
@[simp] theorem State.setSlot_setupBlock (s : State) (i : Slot) (x : Option Rec) : (s.setSlot i x).setupBlock = s.setupBlock := rfl
@[simp] theorem State.setSlot_unsaved (s : State) (i : Slot) (x : Option Rec) : (s.setSlot i x).unsaved = s.unsaved := rfl
@[simp] theorem State.setSlot_setupFault (s : State) (i : Slot) (x : Option Rec) : (s.setSlot i x).setupFault = s.setupFault := rfl
@[simp] theorem State.setSlot_countMemory (s : State) (i : Slot) (x : Option Rec) : (s.setSlot i x).countMemory = s.countMemory := rfl
@[simp] theorem State.setSlot_countLost (s : State) (i : Slot) (x : Option Rec) : (s.setSlot i x).countLost = s.countLost := rfl
@[simp] theorem State.setSlot_causes (s : State) (i : Slot) (x : Option Rec) : (s.setSlot i x).causes = s.causes := rfl
@[simp] theorem State.setSlot_startUp (s : State) (i : Slot) (x : Option Rec) : (s.setSlot i x).startUp = s.startUp := rfl
@[simp] theorem State.setSlot_free (s : State) (i : Slot) (x : Option Rec) : (s.setSlot i x).free = s.free := rfl

/-! ### setPoint -/

@[simp] theorem State.setPoint_pending (s : State) (i : PointId) (x : Point) : (s.setPoint i x).pending = s.pending := rfl
@[simp] theorem State.setPoint_time (s : State) (i : PointId) (x : Point) : (s.setPoint i x).time = s.time := rfl
@[simp] theorem State.setPoint_records (s : State) (i : PointId) (x : Point) : (s.setPoint i x).records = s.records := rfl
@[simp] theorem State.setPoint_stores (s : State) (i : PointId) (x : Point) : (s.setPoint i x).stores = s.stores := rfl
@[simp] theorem State.setPoint_points (s : State) (i : PointId) (x : Point) : (s.setPoint i x).points = pairPut s.points i x := rfl
@[simp] theorem State.setPoint_engines (s : State) (i : PointId) (x : Point) : (s.setPoint i x).engines = s.engines := rfl
@[simp] theorem State.setPoint_bus (s : State) (i : PointId) (x : Point) : (s.setPoint i x).bus = s.bus := rfl
@[simp] theorem State.setPoint_reconciler (s : State) (i : PointId) (x : Point) : (s.setPoint i x).reconciler = s.reconciler := rfl
@[simp] theorem State.setPoint_storeBanks (s : State) (i : PointId) (x : Point) : (s.setPoint i x).storeBanks = s.storeBanks := rfl
@[simp] theorem State.setPoint_pointBanks (s : State) (i : PointId) (x : Point) : (s.setPoint i x).pointBanks = s.pointBanks := rfl
@[simp] theorem State.setPoint_cashbox (s : State) (i : PointId) (x : Point) : (s.setPoint i x).cashbox = s.cashbox := rfl
@[simp] theorem State.setPoint_ports (s : State) (i : PointId) (x : Point) : (s.setPoint i x).ports = s.ports := rfl
@[simp] theorem State.setPoint_pointSetup (s : State) (i : PointId) (x : Point) : (s.setPoint i x).pointSetup = s.pointSetup := rfl
@[simp] theorem State.setPoint_system (s : State) (i : PointId) (x : Point) : (s.setPoint i x).system = s.system := rfl
@[simp] theorem State.setPoint_setupBlock (s : State) (i : PointId) (x : Point) : (s.setPoint i x).setupBlock = s.setupBlock := rfl
@[simp] theorem State.setPoint_unsaved (s : State) (i : PointId) (x : Point) : (s.setPoint i x).unsaved = s.unsaved := rfl
@[simp] theorem State.setPoint_setupFault (s : State) (i : PointId) (x : Point) : (s.setPoint i x).setupFault = s.setupFault := rfl
@[simp] theorem State.setPoint_countMemory (s : State) (i : PointId) (x : Point) : (s.setPoint i x).countMemory = s.countMemory := rfl
@[simp] theorem State.setPoint_countLost (s : State) (i : PointId) (x : Point) : (s.setPoint i x).countLost = s.countLost := rfl
@[simp] theorem State.setPoint_causes (s : State) (i : PointId) (x : Point) : (s.setPoint i x).causes = s.causes := rfl
@[simp] theorem State.setPoint_startUp (s : State) (i : PointId) (x : Point) : (s.setPoint i x).startUp = s.startUp := rfl
@[simp] theorem State.setPoint_free (s : State) (i : PointId) (x : Point) : (s.setPoint i x).free = s.free := rfl

/-! ### setEngine -/

@[simp] theorem State.setEngine_pending (s : State) (i : EngineId) (x : Engine) : (s.setEngine i x).pending = s.pending := rfl
@[simp] theorem State.setEngine_time (s : State) (i : EngineId) (x : Engine) : (s.setEngine i x).time = s.time := rfl
@[simp] theorem State.setEngine_records (s : State) (i : EngineId) (x : Engine) : (s.setEngine i x).records = s.records := rfl
@[simp] theorem State.setEngine_stores (s : State) (i : EngineId) (x : Engine) : (s.setEngine i x).stores = s.stores := rfl
@[simp] theorem State.setEngine_points (s : State) (i : EngineId) (x : Engine) : (s.setEngine i x).points = s.points := rfl
@[simp] theorem State.setEngine_engines (s : State) (i : EngineId) (x : Engine) : (s.setEngine i x).engines = enginePut s.engines i x := rfl
@[simp] theorem State.setEngine_bus (s : State) (i : EngineId) (x : Engine) : (s.setEngine i x).bus = s.bus := rfl
@[simp] theorem State.setEngine_reconciler (s : State) (i : EngineId) (x : Engine) : (s.setEngine i x).reconciler = s.reconciler := rfl
@[simp] theorem State.setEngine_storeBanks (s : State) (i : EngineId) (x : Engine) : (s.setEngine i x).storeBanks = s.storeBanks := rfl
@[simp] theorem State.setEngine_pointBanks (s : State) (i : EngineId) (x : Engine) : (s.setEngine i x).pointBanks = s.pointBanks := rfl
@[simp] theorem State.setEngine_cashbox (s : State) (i : EngineId) (x : Engine) : (s.setEngine i x).cashbox = s.cashbox := rfl
@[simp] theorem State.setEngine_ports (s : State) (i : EngineId) (x : Engine) : (s.setEngine i x).ports = s.ports := rfl
@[simp] theorem State.setEngine_pointSetup (s : State) (i : EngineId) (x : Engine) : (s.setEngine i x).pointSetup = s.pointSetup := rfl
@[simp] theorem State.setEngine_system (s : State) (i : EngineId) (x : Engine) : (s.setEngine i x).system = s.system := rfl
@[simp] theorem State.setEngine_setupBlock (s : State) (i : EngineId) (x : Engine) : (s.setEngine i x).setupBlock = s.setupBlock := rfl
@[simp] theorem State.setEngine_unsaved (s : State) (i : EngineId) (x : Engine) : (s.setEngine i x).unsaved = s.unsaved := rfl
@[simp] theorem State.setEngine_setupFault (s : State) (i : EngineId) (x : Engine) : (s.setEngine i x).setupFault = s.setupFault := rfl
@[simp] theorem State.setEngine_countMemory (s : State) (i : EngineId) (x : Engine) : (s.setEngine i x).countMemory = s.countMemory := rfl
@[simp] theorem State.setEngine_countLost (s : State) (i : EngineId) (x : Engine) : (s.setEngine i x).countLost = s.countLost := rfl
@[simp] theorem State.setEngine_causes (s : State) (i : EngineId) (x : Engine) : (s.setEngine i x).causes = s.causes := rfl
@[simp] theorem State.setEngine_startUp (s : State) (i : EngineId) (x : Engine) : (s.setEngine i x).startUp = s.startUp := rfl
@[simp] theorem State.setEngine_free (s : State) (i : EngineId) (x : Engine) : (s.setEngine i x).free = s.free := rfl

/-! ### setPort -/

@[simp] theorem State.setPort_pending (s : State) (i : PortId) (x : Port) : (s.setPort i x).pending = s.pending := rfl
@[simp] theorem State.setPort_time (s : State) (i : PortId) (x : Port) : (s.setPort i x).time = s.time := rfl
@[simp] theorem State.setPort_records (s : State) (i : PortId) (x : Port) : (s.setPort i x).records = s.records := rfl
@[simp] theorem State.setPort_stores (s : State) (i : PortId) (x : Port) : (s.setPort i x).stores = s.stores := rfl
@[simp] theorem State.setPort_points (s : State) (i : PortId) (x : Port) : (s.setPort i x).points = s.points := rfl
@[simp] theorem State.setPort_engines (s : State) (i : PortId) (x : Port) : (s.setPort i x).engines = s.engines := rfl
@[simp] theorem State.setPort_bus (s : State) (i : PortId) (x : Port) : (s.setPort i x).bus = s.bus := rfl
@[simp] theorem State.setPort_reconciler (s : State) (i : PortId) (x : Port) : (s.setPort i x).reconciler = s.reconciler := rfl
@[simp] theorem State.setPort_storeBanks (s : State) (i : PortId) (x : Port) : (s.setPort i x).storeBanks = s.storeBanks := rfl
@[simp] theorem State.setPort_pointBanks (s : State) (i : PortId) (x : Port) : (s.setPort i x).pointBanks = s.pointBanks := rfl
@[simp] theorem State.setPort_cashbox (s : State) (i : PortId) (x : Port) : (s.setPort i x).cashbox = s.cashbox := rfl
@[simp] theorem State.setPort_ports (s : State) (i : PortId) (x : Port) : (s.setPort i x).ports = portPut s.ports i x := rfl
@[simp] theorem State.setPort_pointSetup (s : State) (i : PortId) (x : Port) : (s.setPort i x).pointSetup = s.pointSetup := rfl
@[simp] theorem State.setPort_system (s : State) (i : PortId) (x : Port) : (s.setPort i x).system = s.system := rfl
@[simp] theorem State.setPort_setupBlock (s : State) (i : PortId) (x : Port) : (s.setPort i x).setupBlock = s.setupBlock := rfl
@[simp] theorem State.setPort_unsaved (s : State) (i : PortId) (x : Port) : (s.setPort i x).unsaved = s.unsaved := rfl
@[simp] theorem State.setPort_setupFault (s : State) (i : PortId) (x : Port) : (s.setPort i x).setupFault = s.setupFault := rfl
@[simp] theorem State.setPort_countMemory (s : State) (i : PortId) (x : Port) : (s.setPort i x).countMemory = s.countMemory := rfl
@[simp] theorem State.setPort_countLost (s : State) (i : PortId) (x : Port) : (s.setPort i x).countLost = s.countLost := rfl
@[simp] theorem State.setPort_causes (s : State) (i : PortId) (x : Port) : (s.setPort i x).causes = s.causes := rfl
@[simp] theorem State.setPort_startUp (s : State) (i : PortId) (x : Port) : (s.setPort i x).startUp = s.startUp := rfl
@[simp] theorem State.setPort_free (s : State) (i : PortId) (x : Port) : (s.setPort i x).free = s.free := rfl

/-! ### setStoreBank -/

@[simp] theorem State.setStoreBank_pending (s : State) (i : Station) (x : Bank) : (s.setStoreBank i x).pending = s.pending := rfl
@[simp] theorem State.setStoreBank_time (s : State) (i : Station) (x : Bank) : (s.setStoreBank i x).time = s.time := rfl
@[simp] theorem State.setStoreBank_records (s : State) (i : Station) (x : Bank) : (s.setStoreBank i x).records = s.records := rfl
@[simp] theorem State.setStoreBank_stores (s : State) (i : Station) (x : Bank) : (s.setStoreBank i x).stores = s.stores := rfl
@[simp] theorem State.setStoreBank_points (s : State) (i : Station) (x : Bank) : (s.setStoreBank i x).points = s.points := rfl
@[simp] theorem State.setStoreBank_engines (s : State) (i : Station) (x : Bank) : (s.setStoreBank i x).engines = s.engines := rfl
@[simp] theorem State.setStoreBank_bus (s : State) (i : Station) (x : Bank) : (s.setStoreBank i x).bus = s.bus := rfl
@[simp] theorem State.setStoreBank_reconciler (s : State) (i : Station) (x : Bank) : (s.setStoreBank i x).reconciler = s.reconciler := rfl
@[simp] theorem State.setStoreBank_storeBanks (s : State) (i : Station) (x : Bank) : (s.setStoreBank i x).storeBanks = s.storeBanks.set i.val x i.isLt := rfl
@[simp] theorem State.setStoreBank_pointBanks (s : State) (i : Station) (x : Bank) : (s.setStoreBank i x).pointBanks = s.pointBanks := rfl
@[simp] theorem State.setStoreBank_cashbox (s : State) (i : Station) (x : Bank) : (s.setStoreBank i x).cashbox = s.cashbox := rfl
@[simp] theorem State.setStoreBank_ports (s : State) (i : Station) (x : Bank) : (s.setStoreBank i x).ports = s.ports := rfl
@[simp] theorem State.setStoreBank_pointSetup (s : State) (i : Station) (x : Bank) : (s.setStoreBank i x).pointSetup = s.pointSetup := rfl
@[simp] theorem State.setStoreBank_system (s : State) (i : Station) (x : Bank) : (s.setStoreBank i x).system = s.system := rfl
@[simp] theorem State.setStoreBank_setupBlock (s : State) (i : Station) (x : Bank) : (s.setStoreBank i x).setupBlock = s.setupBlock := rfl
@[simp] theorem State.setStoreBank_unsaved (s : State) (i : Station) (x : Bank) : (s.setStoreBank i x).unsaved = s.unsaved := rfl
@[simp] theorem State.setStoreBank_setupFault (s : State) (i : Station) (x : Bank) : (s.setStoreBank i x).setupFault = s.setupFault := rfl
@[simp] theorem State.setStoreBank_countMemory (s : State) (i : Station) (x : Bank) : (s.setStoreBank i x).countMemory = s.countMemory := rfl
@[simp] theorem State.setStoreBank_countLost (s : State) (i : Station) (x : Bank) : (s.setStoreBank i x).countLost = s.countLost := rfl
@[simp] theorem State.setStoreBank_causes (s : State) (i : Station) (x : Bank) : (s.setStoreBank i x).causes = s.causes := rfl
@[simp] theorem State.setStoreBank_startUp (s : State) (i : Station) (x : Bank) : (s.setStoreBank i x).startUp = s.startUp := rfl
@[simp] theorem State.setStoreBank_free (s : State) (i : Station) (x : Bank) : (s.setStoreBank i x).free = s.free := rfl

/-! ### setPointBank -/

@[simp] theorem State.setPointBank_pending (s : State) (i : PointId) (x : Bank) : (s.setPointBank i x).pending = s.pending := rfl
@[simp] theorem State.setPointBank_time (s : State) (i : PointId) (x : Bank) : (s.setPointBank i x).time = s.time := rfl
@[simp] theorem State.setPointBank_records (s : State) (i : PointId) (x : Bank) : (s.setPointBank i x).records = s.records := rfl
@[simp] theorem State.setPointBank_stores (s : State) (i : PointId) (x : Bank) : (s.setPointBank i x).stores = s.stores := rfl
@[simp] theorem State.setPointBank_points (s : State) (i : PointId) (x : Bank) : (s.setPointBank i x).points = s.points := rfl
@[simp] theorem State.setPointBank_engines (s : State) (i : PointId) (x : Bank) : (s.setPointBank i x).engines = s.engines := rfl
@[simp] theorem State.setPointBank_bus (s : State) (i : PointId) (x : Bank) : (s.setPointBank i x).bus = s.bus := rfl
@[simp] theorem State.setPointBank_reconciler (s : State) (i : PointId) (x : Bank) : (s.setPointBank i x).reconciler = s.reconciler := rfl
@[simp] theorem State.setPointBank_storeBanks (s : State) (i : PointId) (x : Bank) : (s.setPointBank i x).storeBanks = s.storeBanks := rfl
@[simp] theorem State.setPointBank_pointBanks (s : State) (i : PointId) (x : Bank) : (s.setPointBank i x).pointBanks = pairPut s.pointBanks i x := rfl
@[simp] theorem State.setPointBank_cashbox (s : State) (i : PointId) (x : Bank) : (s.setPointBank i x).cashbox = s.cashbox := rfl
@[simp] theorem State.setPointBank_ports (s : State) (i : PointId) (x : Bank) : (s.setPointBank i x).ports = s.ports := rfl
@[simp] theorem State.setPointBank_pointSetup (s : State) (i : PointId) (x : Bank) : (s.setPointBank i x).pointSetup = s.pointSetup := rfl
@[simp] theorem State.setPointBank_system (s : State) (i : PointId) (x : Bank) : (s.setPointBank i x).system = s.system := rfl
@[simp] theorem State.setPointBank_setupBlock (s : State) (i : PointId) (x : Bank) : (s.setPointBank i x).setupBlock = s.setupBlock := rfl
@[simp] theorem State.setPointBank_unsaved (s : State) (i : PointId) (x : Bank) : (s.setPointBank i x).unsaved = s.unsaved := rfl
@[simp] theorem State.setPointBank_setupFault (s : State) (i : PointId) (x : Bank) : (s.setPointBank i x).setupFault = s.setupFault := rfl
@[simp] theorem State.setPointBank_countMemory (s : State) (i : PointId) (x : Bank) : (s.setPointBank i x).countMemory = s.countMemory := rfl
@[simp] theorem State.setPointBank_countLost (s : State) (i : PointId) (x : Bank) : (s.setPointBank i x).countLost = s.countLost := rfl
@[simp] theorem State.setPointBank_causes (s : State) (i : PointId) (x : Bank) : (s.setPointBank i x).causes = s.causes := rfl
@[simp] theorem State.setPointBank_startUp (s : State) (i : PointId) (x : Bank) : (s.setPointBank i x).startUp = s.startUp := rfl
@[simp] theorem State.setPointBank_free (s : State) (i : PointId) (x : Bank) : (s.setPointBank i x).free = s.free := rfl

/-! ### setTime -/

@[simp] theorem State.setTime_pending (s : State) (x : Time) : (s.setTime x).pending = s.pending := rfl
@[simp] theorem State.setTime_time (s : State) (x : Time) : (s.setTime x).time = x := rfl
@[simp] theorem State.setTime_records (s : State) (x : Time) : (s.setTime x).records = s.records := rfl
@[simp] theorem State.setTime_stores (s : State) (x : Time) : (s.setTime x).stores = s.stores := rfl
@[simp] theorem State.setTime_points (s : State) (x : Time) : (s.setTime x).points = s.points := rfl
@[simp] theorem State.setTime_engines (s : State) (x : Time) : (s.setTime x).engines = s.engines := rfl
@[simp] theorem State.setTime_bus (s : State) (x : Time) : (s.setTime x).bus = s.bus := rfl
@[simp] theorem State.setTime_reconciler (s : State) (x : Time) : (s.setTime x).reconciler = s.reconciler := rfl
@[simp] theorem State.setTime_storeBanks (s : State) (x : Time) : (s.setTime x).storeBanks = s.storeBanks := rfl
@[simp] theorem State.setTime_pointBanks (s : State) (x : Time) : (s.setTime x).pointBanks = s.pointBanks := rfl
@[simp] theorem State.setTime_cashbox (s : State) (x : Time) : (s.setTime x).cashbox = s.cashbox := rfl
@[simp] theorem State.setTime_ports (s : State) (x : Time) : (s.setTime x).ports = s.ports := rfl
@[simp] theorem State.setTime_pointSetup (s : State) (x : Time) : (s.setTime x).pointSetup = s.pointSetup := rfl
@[simp] theorem State.setTime_system (s : State) (x : Time) : (s.setTime x).system = s.system := rfl
@[simp] theorem State.setTime_setupBlock (s : State) (x : Time) : (s.setTime x).setupBlock = s.setupBlock := rfl
@[simp] theorem State.setTime_unsaved (s : State) (x : Time) : (s.setTime x).unsaved = s.unsaved := rfl
@[simp] theorem State.setTime_setupFault (s : State) (x : Time) : (s.setTime x).setupFault = s.setupFault := rfl
@[simp] theorem State.setTime_countMemory (s : State) (x : Time) : (s.setTime x).countMemory = s.countMemory := rfl
@[simp] theorem State.setTime_countLost (s : State) (x : Time) : (s.setTime x).countLost = s.countLost := rfl
@[simp] theorem State.setTime_causes (s : State) (x : Time) : (s.setTime x).causes = s.causes := rfl
@[simp] theorem State.setTime_startUp (s : State) (x : Time) : (s.setTime x).startUp = s.startUp := rfl
@[simp] theorem State.setTime_free (s : State) (x : Time) : (s.setTime x).free = s.free := rfl

/-! ### setCashbox -/

@[simp] theorem State.setCashbox_pending (s : State) (x : Cashbox) : (s.setCashbox x).pending = s.pending := rfl
@[simp] theorem State.setCashbox_time (s : State) (x : Cashbox) : (s.setCashbox x).time = s.time := rfl
@[simp] theorem State.setCashbox_records (s : State) (x : Cashbox) : (s.setCashbox x).records = s.records := rfl
@[simp] theorem State.setCashbox_stores (s : State) (x : Cashbox) : (s.setCashbox x).stores = s.stores := rfl
@[simp] theorem State.setCashbox_points (s : State) (x : Cashbox) : (s.setCashbox x).points = s.points := rfl
@[simp] theorem State.setCashbox_engines (s : State) (x : Cashbox) : (s.setCashbox x).engines = s.engines := rfl
@[simp] theorem State.setCashbox_bus (s : State) (x : Cashbox) : (s.setCashbox x).bus = s.bus := rfl
@[simp] theorem State.setCashbox_reconciler (s : State) (x : Cashbox) : (s.setCashbox x).reconciler = s.reconciler := rfl
@[simp] theorem State.setCashbox_storeBanks (s : State) (x : Cashbox) : (s.setCashbox x).storeBanks = s.storeBanks := rfl
@[simp] theorem State.setCashbox_pointBanks (s : State) (x : Cashbox) : (s.setCashbox x).pointBanks = s.pointBanks := rfl
@[simp] theorem State.setCashbox_cashbox (s : State) (x : Cashbox) : (s.setCashbox x).cashbox = x := rfl
@[simp] theorem State.setCashbox_ports (s : State) (x : Cashbox) : (s.setCashbox x).ports = s.ports := rfl
@[simp] theorem State.setCashbox_pointSetup (s : State) (x : Cashbox) : (s.setCashbox x).pointSetup = s.pointSetup := rfl
@[simp] theorem State.setCashbox_system (s : State) (x : Cashbox) : (s.setCashbox x).system = s.system := rfl
@[simp] theorem State.setCashbox_setupBlock (s : State) (x : Cashbox) : (s.setCashbox x).setupBlock = s.setupBlock := rfl
@[simp] theorem State.setCashbox_unsaved (s : State) (x : Cashbox) : (s.setCashbox x).unsaved = s.unsaved := rfl
@[simp] theorem State.setCashbox_setupFault (s : State) (x : Cashbox) : (s.setCashbox x).setupFault = s.setupFault := rfl
@[simp] theorem State.setCashbox_countMemory (s : State) (x : Cashbox) : (s.setCashbox x).countMemory = s.countMemory := rfl
@[simp] theorem State.setCashbox_countLost (s : State) (x : Cashbox) : (s.setCashbox x).countLost = s.countLost := rfl
@[simp] theorem State.setCashbox_causes (s : State) (x : Cashbox) : (s.setCashbox x).causes = s.causes := rfl
@[simp] theorem State.setCashbox_startUp (s : State) (x : Cashbox) : (s.setCashbox x).startUp = s.startUp := rfl
@[simp] theorem State.setCashbox_free (s : State) (x : Cashbox) : (s.setCashbox x).free = s.free := rfl

/-! ### setBus -/

@[simp] theorem State.setBus_pending (s : State) (x : Bus) : (s.setBus x).pending = s.pending := rfl
@[simp] theorem State.setBus_time (s : State) (x : Bus) : (s.setBus x).time = s.time := rfl
@[simp] theorem State.setBus_records (s : State) (x : Bus) : (s.setBus x).records = s.records := rfl
@[simp] theorem State.setBus_stores (s : State) (x : Bus) : (s.setBus x).stores = s.stores := rfl
@[simp] theorem State.setBus_points (s : State) (x : Bus) : (s.setBus x).points = s.points := rfl
@[simp] theorem State.setBus_engines (s : State) (x : Bus) : (s.setBus x).engines = s.engines := rfl
@[simp] theorem State.setBus_bus (s : State) (x : Bus) : (s.setBus x).bus = x := rfl
@[simp] theorem State.setBus_reconciler (s : State) (x : Bus) : (s.setBus x).reconciler = s.reconciler := rfl
@[simp] theorem State.setBus_storeBanks (s : State) (x : Bus) : (s.setBus x).storeBanks = s.storeBanks := rfl
@[simp] theorem State.setBus_pointBanks (s : State) (x : Bus) : (s.setBus x).pointBanks = s.pointBanks := rfl
@[simp] theorem State.setBus_cashbox (s : State) (x : Bus) : (s.setBus x).cashbox = s.cashbox := rfl
@[simp] theorem State.setBus_ports (s : State) (x : Bus) : (s.setBus x).ports = s.ports := rfl
@[simp] theorem State.setBus_pointSetup (s : State) (x : Bus) : (s.setBus x).pointSetup = s.pointSetup := rfl
@[simp] theorem State.setBus_system (s : State) (x : Bus) : (s.setBus x).system = s.system := rfl
@[simp] theorem State.setBus_setupBlock (s : State) (x : Bus) : (s.setBus x).setupBlock = s.setupBlock := rfl
@[simp] theorem State.setBus_unsaved (s : State) (x : Bus) : (s.setBus x).unsaved = s.unsaved := rfl
@[simp] theorem State.setBus_setupFault (s : State) (x : Bus) : (s.setBus x).setupFault = s.setupFault := rfl
@[simp] theorem State.setBus_countMemory (s : State) (x : Bus) : (s.setBus x).countMemory = s.countMemory := rfl
@[simp] theorem State.setBus_countLost (s : State) (x : Bus) : (s.setBus x).countLost = s.countLost := rfl
@[simp] theorem State.setBus_causes (s : State) (x : Bus) : (s.setBus x).causes = s.causes := rfl
@[simp] theorem State.setBus_startUp (s : State) (x : Bus) : (s.setBus x).startUp = s.startUp := rfl
@[simp] theorem State.setBus_free (s : State) (x : Bus) : (s.setBus x).free = s.free := rfl

/-! ### setReconciler -/

@[simp] theorem State.setReconciler_pending (s : State) (x : Reconciler) : (s.setReconciler x).pending = s.pending := rfl
@[simp] theorem State.setReconciler_time (s : State) (x : Reconciler) : (s.setReconciler x).time = s.time := rfl
@[simp] theorem State.setReconciler_records (s : State) (x : Reconciler) : (s.setReconciler x).records = s.records := rfl
@[simp] theorem State.setReconciler_stores (s : State) (x : Reconciler) : (s.setReconciler x).stores = s.stores := rfl
@[simp] theorem State.setReconciler_points (s : State) (x : Reconciler) : (s.setReconciler x).points = s.points := rfl
@[simp] theorem State.setReconciler_engines (s : State) (x : Reconciler) : (s.setReconciler x).engines = s.engines := rfl
@[simp] theorem State.setReconciler_bus (s : State) (x : Reconciler) : (s.setReconciler x).bus = s.bus := rfl
@[simp] theorem State.setReconciler_reconciler (s : State) (x : Reconciler) : (s.setReconciler x).reconciler = x := rfl
@[simp] theorem State.setReconciler_storeBanks (s : State) (x : Reconciler) : (s.setReconciler x).storeBanks = s.storeBanks := rfl
@[simp] theorem State.setReconciler_pointBanks (s : State) (x : Reconciler) : (s.setReconciler x).pointBanks = s.pointBanks := rfl
@[simp] theorem State.setReconciler_cashbox (s : State) (x : Reconciler) : (s.setReconciler x).cashbox = s.cashbox := rfl
@[simp] theorem State.setReconciler_ports (s : State) (x : Reconciler) : (s.setReconciler x).ports = s.ports := rfl
@[simp] theorem State.setReconciler_pointSetup (s : State) (x : Reconciler) : (s.setReconciler x).pointSetup = s.pointSetup := rfl
@[simp] theorem State.setReconciler_system (s : State) (x : Reconciler) : (s.setReconciler x).system = s.system := rfl
@[simp] theorem State.setReconciler_setupBlock (s : State) (x : Reconciler) : (s.setReconciler x).setupBlock = s.setupBlock := rfl
@[simp] theorem State.setReconciler_unsaved (s : State) (x : Reconciler) : (s.setReconciler x).unsaved = s.unsaved := rfl
@[simp] theorem State.setReconciler_setupFault (s : State) (x : Reconciler) : (s.setReconciler x).setupFault = s.setupFault := rfl
@[simp] theorem State.setReconciler_countMemory (s : State) (x : Reconciler) : (s.setReconciler x).countMemory = s.countMemory := rfl
@[simp] theorem State.setReconciler_countLost (s : State) (x : Reconciler) : (s.setReconciler x).countLost = s.countLost := rfl
@[simp] theorem State.setReconciler_causes (s : State) (x : Reconciler) : (s.setReconciler x).causes = s.causes := rfl
@[simp] theorem State.setReconciler_startUp (s : State) (x : Reconciler) : (s.setReconciler x).startUp = s.startUp := rfl
@[simp] theorem State.setReconciler_free (s : State) (x : Reconciler) : (s.setReconciler x).free = s.free := rfl

/-! ### setCountMemory -/

@[simp] theorem State.setCountMemory_pending (s : State) (x : CountMemory) : (s.setCountMemory x).pending = s.pending := rfl
@[simp] theorem State.setCountMemory_time (s : State) (x : CountMemory) : (s.setCountMemory x).time = s.time := rfl
@[simp] theorem State.setCountMemory_records (s : State) (x : CountMemory) : (s.setCountMemory x).records = s.records := rfl
@[simp] theorem State.setCountMemory_stores (s : State) (x : CountMemory) : (s.setCountMemory x).stores = s.stores := rfl
@[simp] theorem State.setCountMemory_points (s : State) (x : CountMemory) : (s.setCountMemory x).points = s.points := rfl
@[simp] theorem State.setCountMemory_engines (s : State) (x : CountMemory) : (s.setCountMemory x).engines = s.engines := rfl
@[simp] theorem State.setCountMemory_bus (s : State) (x : CountMemory) : (s.setCountMemory x).bus = s.bus := rfl
@[simp] theorem State.setCountMemory_reconciler (s : State) (x : CountMemory) : (s.setCountMemory x).reconciler = s.reconciler := rfl
@[simp] theorem State.setCountMemory_storeBanks (s : State) (x : CountMemory) : (s.setCountMemory x).storeBanks = s.storeBanks := rfl
@[simp] theorem State.setCountMemory_pointBanks (s : State) (x : CountMemory) : (s.setCountMemory x).pointBanks = s.pointBanks := rfl
@[simp] theorem State.setCountMemory_cashbox (s : State) (x : CountMemory) : (s.setCountMemory x).cashbox = s.cashbox := rfl
@[simp] theorem State.setCountMemory_ports (s : State) (x : CountMemory) : (s.setCountMemory x).ports = s.ports := rfl
@[simp] theorem State.setCountMemory_pointSetup (s : State) (x : CountMemory) : (s.setCountMemory x).pointSetup = s.pointSetup := rfl
@[simp] theorem State.setCountMemory_system (s : State) (x : CountMemory) : (s.setCountMemory x).system = s.system := rfl
@[simp] theorem State.setCountMemory_setupBlock (s : State) (x : CountMemory) : (s.setCountMemory x).setupBlock = s.setupBlock := rfl
@[simp] theorem State.setCountMemory_unsaved (s : State) (x : CountMemory) : (s.setCountMemory x).unsaved = s.unsaved := rfl
@[simp] theorem State.setCountMemory_setupFault (s : State) (x : CountMemory) : (s.setCountMemory x).setupFault = s.setupFault := rfl
@[simp] theorem State.setCountMemory_countMemory (s : State) (x : CountMemory) : (s.setCountMemory x).countMemory = x := rfl
@[simp] theorem State.setCountMemory_countLost (s : State) (x : CountMemory) : (s.setCountMemory x).countLost = s.countLost := rfl
@[simp] theorem State.setCountMemory_causes (s : State) (x : CountMemory) : (s.setCountMemory x).causes = s.causes := rfl
@[simp] theorem State.setCountMemory_startUp (s : State) (x : CountMemory) : (s.setCountMemory x).startUp = s.startUp := rfl
@[simp] theorem State.setCountMemory_free (s : State) (x : CountMemory) : (s.setCountMemory x).free = s.free := rfl

/-! ### setStartUp -/

@[simp] theorem State.setStartUp_pending (s : State) (x : StartUp) : (s.setStartUp x).pending = s.pending := rfl
@[simp] theorem State.setStartUp_time (s : State) (x : StartUp) : (s.setStartUp x).time = s.time := rfl
@[simp] theorem State.setStartUp_records (s : State) (x : StartUp) : (s.setStartUp x).records = s.records := rfl
@[simp] theorem State.setStartUp_stores (s : State) (x : StartUp) : (s.setStartUp x).stores = s.stores := rfl
@[simp] theorem State.setStartUp_points (s : State) (x : StartUp) : (s.setStartUp x).points = s.points := rfl
@[simp] theorem State.setStartUp_engines (s : State) (x : StartUp) : (s.setStartUp x).engines = s.engines := rfl
@[simp] theorem State.setStartUp_bus (s : State) (x : StartUp) : (s.setStartUp x).bus = s.bus := rfl
@[simp] theorem State.setStartUp_reconciler (s : State) (x : StartUp) : (s.setStartUp x).reconciler = s.reconciler := rfl
@[simp] theorem State.setStartUp_storeBanks (s : State) (x : StartUp) : (s.setStartUp x).storeBanks = s.storeBanks := rfl
@[simp] theorem State.setStartUp_pointBanks (s : State) (x : StartUp) : (s.setStartUp x).pointBanks = s.pointBanks := rfl
@[simp] theorem State.setStartUp_cashbox (s : State) (x : StartUp) : (s.setStartUp x).cashbox = s.cashbox := rfl
@[simp] theorem State.setStartUp_ports (s : State) (x : StartUp) : (s.setStartUp x).ports = s.ports := rfl
@[simp] theorem State.setStartUp_pointSetup (s : State) (x : StartUp) : (s.setStartUp x).pointSetup = s.pointSetup := rfl
@[simp] theorem State.setStartUp_system (s : State) (x : StartUp) : (s.setStartUp x).system = s.system := rfl
@[simp] theorem State.setStartUp_setupBlock (s : State) (x : StartUp) : (s.setStartUp x).setupBlock = s.setupBlock := rfl
@[simp] theorem State.setStartUp_unsaved (s : State) (x : StartUp) : (s.setStartUp x).unsaved = s.unsaved := rfl
@[simp] theorem State.setStartUp_setupFault (s : State) (x : StartUp) : (s.setStartUp x).setupFault = s.setupFault := rfl
@[simp] theorem State.setStartUp_countMemory (s : State) (x : StartUp) : (s.setStartUp x).countMemory = s.countMemory := rfl
@[simp] theorem State.setStartUp_countLost (s : State) (x : StartUp) : (s.setStartUp x).countLost = s.countLost := rfl
@[simp] theorem State.setStartUp_causes (s : State) (x : StartUp) : (s.setStartUp x).causes = s.causes := rfl
@[simp] theorem State.setStartUp_startUp (s : State) (x : StartUp) : (s.setStartUp x).startUp = x := rfl
@[simp] theorem State.setStartUp_free (s : State) (x : StartUp) : (s.setStartUp x).free = s.free := rfl

/-! ### setFree -/

@[simp] theorem State.setFree_pending (s : State) (x : Nat) : (s.setFree x).pending = s.pending := rfl
@[simp] theorem State.setFree_time (s : State) (x : Nat) : (s.setFree x).time = s.time := rfl
@[simp] theorem State.setFree_records (s : State) (x : Nat) : (s.setFree x).records = s.records := rfl
@[simp] theorem State.setFree_stores (s : State) (x : Nat) : (s.setFree x).stores = s.stores := rfl
@[simp] theorem State.setFree_points (s : State) (x : Nat) : (s.setFree x).points = s.points := rfl
@[simp] theorem State.setFree_engines (s : State) (x : Nat) : (s.setFree x).engines = s.engines := rfl
@[simp] theorem State.setFree_bus (s : State) (x : Nat) : (s.setFree x).bus = s.bus := rfl
@[simp] theorem State.setFree_reconciler (s : State) (x : Nat) : (s.setFree x).reconciler = s.reconciler := rfl
@[simp] theorem State.setFree_storeBanks (s : State) (x : Nat) : (s.setFree x).storeBanks = s.storeBanks := rfl
@[simp] theorem State.setFree_pointBanks (s : State) (x : Nat) : (s.setFree x).pointBanks = s.pointBanks := rfl
@[simp] theorem State.setFree_cashbox (s : State) (x : Nat) : (s.setFree x).cashbox = s.cashbox := rfl
@[simp] theorem State.setFree_ports (s : State) (x : Nat) : (s.setFree x).ports = s.ports := rfl
@[simp] theorem State.setFree_pointSetup (s : State) (x : Nat) : (s.setFree x).pointSetup = s.pointSetup := rfl
@[simp] theorem State.setFree_system (s : State) (x : Nat) : (s.setFree x).system = s.system := rfl
@[simp] theorem State.setFree_setupBlock (s : State) (x : Nat) : (s.setFree x).setupBlock = s.setupBlock := rfl
@[simp] theorem State.setFree_unsaved (s : State) (x : Nat) : (s.setFree x).unsaved = s.unsaved := rfl
@[simp] theorem State.setFree_setupFault (s : State) (x : Nat) : (s.setFree x).setupFault = s.setupFault := rfl
@[simp] theorem State.setFree_countMemory (s : State) (x : Nat) : (s.setFree x).countMemory = s.countMemory := rfl
@[simp] theorem State.setFree_countLost (s : State) (x : Nat) : (s.setFree x).countLost = s.countLost := rfl
@[simp] theorem State.setFree_causes (s : State) (x : Nat) : (s.setFree x).causes = s.causes := rfl
@[simp] theorem State.setFree_startUp (s : State) (x : Nat) : (s.setFree x).startUp = s.startUp := rfl
@[simp] theorem State.setFree_free (s : State) (x : Nat) : (s.setFree x).free = x := rfl

/-! ### setPending -/

@[simp] theorem State.setPending_pending (s : State) (x : List Instr) : (s.setPending x).pending = x := rfl
@[simp] theorem State.setPending_time (s : State) (x : List Instr) : (s.setPending x).time = s.time := rfl
@[simp] theorem State.setPending_records (s : State) (x : List Instr) : (s.setPending x).records = s.records := rfl
@[simp] theorem State.setPending_stores (s : State) (x : List Instr) : (s.setPending x).stores = s.stores := rfl
@[simp] theorem State.setPending_points (s : State) (x : List Instr) : (s.setPending x).points = s.points := rfl
@[simp] theorem State.setPending_engines (s : State) (x : List Instr) : (s.setPending x).engines = s.engines := rfl
@[simp] theorem State.setPending_bus (s : State) (x : List Instr) : (s.setPending x).bus = s.bus := rfl
@[simp] theorem State.setPending_reconciler (s : State) (x : List Instr) : (s.setPending x).reconciler = s.reconciler := rfl
@[simp] theorem State.setPending_storeBanks (s : State) (x : List Instr) : (s.setPending x).storeBanks = s.storeBanks := rfl
@[simp] theorem State.setPending_pointBanks (s : State) (x : List Instr) : (s.setPending x).pointBanks = s.pointBanks := rfl
@[simp] theorem State.setPending_cashbox (s : State) (x : List Instr) : (s.setPending x).cashbox = s.cashbox := rfl
@[simp] theorem State.setPending_ports (s : State) (x : List Instr) : (s.setPending x).ports = s.ports := rfl
@[simp] theorem State.setPending_pointSetup (s : State) (x : List Instr) : (s.setPending x).pointSetup = s.pointSetup := rfl
@[simp] theorem State.setPending_system (s : State) (x : List Instr) : (s.setPending x).system = s.system := rfl
@[simp] theorem State.setPending_setupBlock (s : State) (x : List Instr) : (s.setPending x).setupBlock = s.setupBlock := rfl
@[simp] theorem State.setPending_unsaved (s : State) (x : List Instr) : (s.setPending x).unsaved = s.unsaved := rfl
@[simp] theorem State.setPending_setupFault (s : State) (x : List Instr) : (s.setPending x).setupFault = s.setupFault := rfl
@[simp] theorem State.setPending_countMemory (s : State) (x : List Instr) : (s.setPending x).countMemory = s.countMemory := rfl
@[simp] theorem State.setPending_countLost (s : State) (x : List Instr) : (s.setPending x).countLost = s.countLost := rfl
@[simp] theorem State.setPending_causes (s : State) (x : List Instr) : (s.setPending x).causes = s.causes := rfl
@[simp] theorem State.setPending_startUp (s : State) (x : List Instr) : (s.setPending x).startUp = s.startUp := rfl
@[simp] theorem State.setPending_free (s : State) (x : List Instr) : (s.setPending x).free = s.free := rfl

/-! ### Changes in place are writes of what was read -/

@[simp] theorem State.updStore_eq (s : State) (i : Station) (f : Store → Store) :
    s.updStore i f = s.setStore i (f (s.store i)) := rfl
@[simp] theorem State.updPoint_eq (s : State) (p : PointId) (f : Point → Point) :
    s.updPoint p f = s.setPoint p (f (s.point p)) := rfl
@[simp] theorem State.updEngine_eq (s : State) (e : EngineId) (f : Engine → Engine) :
    s.updEngine e f = s.setEngine e (f (s.engine e)) := rfl
@[simp] theorem State.updPort_eq (s : State) (p : PortId) (f : Port → Port) :
    s.updPort p f = s.setPort p (f (s.port p)) := rfl
@[simp] theorem State.setBinding_eq (s : State) (p : PointId) (b : Binding) :
    s.setBinding p b = s.setPoint p { s.point p with binding := b } := rfl

/-! ### Reading back -/

@[simp] theorem State.store_setStore (s : State) (i : Station) (x : Store) : (s.setStore i x).store i = x := by
  simp [State.store, State.setStore]

theorem State.store_setStore_ne (s : State) (i j : Station) (x : Store) (h : i ≠ j) : (s.setStore i x).store j = s.store j := by
  have : i.val ≠ j.val := fun e => h (Fin.ext e)
  simp [State.store, State.setStore, this]

@[simp] theorem State.storeBank_setStoreBank (s : State) (i : Station) (x : Bank) : (s.setStoreBank i x).storeBank i = x := by
  simp [State.storeBank, State.setStoreBank]

theorem State.storeBank_setStoreBank_ne (s : State) (i j : Station) (x : Bank) (h : i ≠ j) : (s.setStoreBank i x).storeBank j = s.storeBank j := by
  have : i.val ≠ j.val := fun e => h (Fin.ext e)
  simp [State.storeBank, State.setStoreBank, this]

@[simp] theorem State.slot_setSlot (s : State) (i : Slot) (x : Option Rec) : (s.setSlot i x).slot i = x := by
  simp [State.slot, State.setSlot]

theorem State.slot_setSlot_ne (s : State) (i j : Slot) (x : Option Rec) (h : i ≠ j) : (s.setSlot i x).slot j = s.slot j := by
  have : i.val ≠ j.val := fun e => h (Fin.ext e)
  simp [State.slot, State.setSlot, this]

@[simp] theorem State.point_setPoint (s : State) (i : PointId) (x : Point) : (s.setPoint i x).point i = x := by cases i <;> rfl

theorem State.point_setPoint_ne (s : State) (i j : PointId) (x : Point) (h : i ≠ j) : (s.setPoint i x).point j = s.point j := by
  cases i <;> cases j <;> first | rfl | exact absurd rfl h

@[simp] theorem State.engine_setEngine (s : State) (i : EngineId) (x : Engine) : (s.setEngine i x).engine i = x := by cases i <;> rfl

theorem State.engine_setEngine_ne (s : State) (i j : EngineId) (x : Engine) (h : i ≠ j) : (s.setEngine i x).engine j = s.engine j := by
  cases i <;> cases j <;> first | rfl | exact absurd rfl h

@[simp] theorem State.port_setPort (s : State) (i : PortId) (x : Port) : (s.setPort i x).port i = x := by cases i <;> rfl

theorem State.port_setPort_ne (s : State) (i j : PortId) (x : Port) (h : i ≠ j) : (s.setPort i x).port j = s.port j := by
  cases i <;> cases j <;> first | rfl | exact absurd rfl h

@[simp] theorem State.pointBank_setPointBank (s : State) (i : PointId) (x : Bank) : (s.setPointBank i x).pointBank i = x := by cases i <;> rfl

theorem State.pointBank_setPointBank_ne (s : State) (i j : PointId) (x : Bank) (h : i ≠ j) : (s.setPointBank i x).pointBank j = s.pointBank j := by
  cases i <;> cases j <;> first | rfl | exact absurd rfl h

/-! ### Reading one table after a write to another -/

@[simp] theorem State.store_setSlot (s : State) (j : Slot) (x : Option Rec) (i : Station) : (s.setSlot j x).store i = s.store i := rfl
@[simp] theorem State.store_setPoint (s : State) (j : PointId) (x : Point) (i : Station) : (s.setPoint j x).store i = s.store i := rfl
@[simp] theorem State.store_setEngine (s : State) (j : EngineId) (x : Engine) (i : Station) : (s.setEngine j x).store i = s.store i := rfl
@[simp] theorem State.store_setPort (s : State) (j : PortId) (x : Port) (i : Station) : (s.setPort j x).store i = s.store i := rfl
@[simp] theorem State.store_setStoreBank (s : State) (j : Station) (x : Bank) (i : Station) : (s.setStoreBank j x).store i = s.store i := rfl
@[simp] theorem State.store_setPointBank (s : State) (j : PointId) (x : Bank) (i : Station) : (s.setPointBank j x).store i = s.store i := rfl
@[simp] theorem State.store_setTime (s : State) (x : Time) (i : Station) : (s.setTime x).store i = s.store i := rfl
@[simp] theorem State.store_setCashbox (s : State) (x : Cashbox) (i : Station) : (s.setCashbox x).store i = s.store i := rfl
@[simp] theorem State.store_setBus (s : State) (x : Bus) (i : Station) : (s.setBus x).store i = s.store i := rfl
@[simp] theorem State.store_setReconciler (s : State) (x : Reconciler) (i : Station) : (s.setReconciler x).store i = s.store i := rfl
@[simp] theorem State.store_setCountMemory (s : State) (x : CountMemory) (i : Station) : (s.setCountMemory x).store i = s.store i := rfl
@[simp] theorem State.store_setStartUp (s : State) (x : StartUp) (i : Station) : (s.setStartUp x).store i = s.store i := rfl
@[simp] theorem State.store_setFree (s : State) (x : Nat) (i : Station) : (s.setFree x).store i = s.store i := rfl
@[simp] theorem State.store_setPending (s : State) (x : List Instr) (i : Station) : (s.setPending x).store i = s.store i := rfl

@[simp] theorem State.storeBank_setStore (s : State) (j : Station) (x : Store) (i : Station) : (s.setStore j x).storeBank i = s.storeBank i := rfl
@[simp] theorem State.storeBank_setSlot (s : State) (j : Slot) (x : Option Rec) (i : Station) : (s.setSlot j x).storeBank i = s.storeBank i := rfl
@[simp] theorem State.storeBank_setPoint (s : State) (j : PointId) (x : Point) (i : Station) : (s.setPoint j x).storeBank i = s.storeBank i := rfl
@[simp] theorem State.storeBank_setEngine (s : State) (j : EngineId) (x : Engine) (i : Station) : (s.setEngine j x).storeBank i = s.storeBank i := rfl
@[simp] theorem State.storeBank_setPort (s : State) (j : PortId) (x : Port) (i : Station) : (s.setPort j x).storeBank i = s.storeBank i := rfl
@[simp] theorem State.storeBank_setPointBank (s : State) (j : PointId) (x : Bank) (i : Station) : (s.setPointBank j x).storeBank i = s.storeBank i := rfl
@[simp] theorem State.storeBank_setTime (s : State) (x : Time) (i : Station) : (s.setTime x).storeBank i = s.storeBank i := rfl
@[simp] theorem State.storeBank_setCashbox (s : State) (x : Cashbox) (i : Station) : (s.setCashbox x).storeBank i = s.storeBank i := rfl
@[simp] theorem State.storeBank_setBus (s : State) (x : Bus) (i : Station) : (s.setBus x).storeBank i = s.storeBank i := rfl
@[simp] theorem State.storeBank_setReconciler (s : State) (x : Reconciler) (i : Station) : (s.setReconciler x).storeBank i = s.storeBank i := rfl
@[simp] theorem State.storeBank_setCountMemory (s : State) (x : CountMemory) (i : Station) : (s.setCountMemory x).storeBank i = s.storeBank i := rfl
@[simp] theorem State.storeBank_setStartUp (s : State) (x : StartUp) (i : Station) : (s.setStartUp x).storeBank i = s.storeBank i := rfl
@[simp] theorem State.storeBank_setFree (s : State) (x : Nat) (i : Station) : (s.setFree x).storeBank i = s.storeBank i := rfl
@[simp] theorem State.storeBank_setPending (s : State) (x : List Instr) (i : Station) : (s.setPending x).storeBank i = s.storeBank i := rfl

@[simp] theorem State.slot_setStore (s : State) (j : Station) (x : Store) (i : Slot) : (s.setStore j x).slot i = s.slot i := rfl
@[simp] theorem State.slot_setPoint (s : State) (j : PointId) (x : Point) (i : Slot) : (s.setPoint j x).slot i = s.slot i := rfl
@[simp] theorem State.slot_setEngine (s : State) (j : EngineId) (x : Engine) (i : Slot) : (s.setEngine j x).slot i = s.slot i := rfl
@[simp] theorem State.slot_setPort (s : State) (j : PortId) (x : Port) (i : Slot) : (s.setPort j x).slot i = s.slot i := rfl
@[simp] theorem State.slot_setStoreBank (s : State) (j : Station) (x : Bank) (i : Slot) : (s.setStoreBank j x).slot i = s.slot i := rfl
@[simp] theorem State.slot_setPointBank (s : State) (j : PointId) (x : Bank) (i : Slot) : (s.setPointBank j x).slot i = s.slot i := rfl
@[simp] theorem State.slot_setTime (s : State) (x : Time) (i : Slot) : (s.setTime x).slot i = s.slot i := rfl
@[simp] theorem State.slot_setCashbox (s : State) (x : Cashbox) (i : Slot) : (s.setCashbox x).slot i = s.slot i := rfl
@[simp] theorem State.slot_setBus (s : State) (x : Bus) (i : Slot) : (s.setBus x).slot i = s.slot i := rfl
@[simp] theorem State.slot_setReconciler (s : State) (x : Reconciler) (i : Slot) : (s.setReconciler x).slot i = s.slot i := rfl
@[simp] theorem State.slot_setCountMemory (s : State) (x : CountMemory) (i : Slot) : (s.setCountMemory x).slot i = s.slot i := rfl
@[simp] theorem State.slot_setStartUp (s : State) (x : StartUp) (i : Slot) : (s.setStartUp x).slot i = s.slot i := rfl
@[simp] theorem State.slot_setFree (s : State) (x : Nat) (i : Slot) : (s.setFree x).slot i = s.slot i := rfl
@[simp] theorem State.slot_setPending (s : State) (x : List Instr) (i : Slot) : (s.setPending x).slot i = s.slot i := rfl

@[simp] theorem State.point_setStore (s : State) (j : Station) (x : Store) (i : PointId) : (s.setStore j x).point i = s.point i := rfl
@[simp] theorem State.point_setSlot (s : State) (j : Slot) (x : Option Rec) (i : PointId) : (s.setSlot j x).point i = s.point i := rfl
@[simp] theorem State.point_setEngine (s : State) (j : EngineId) (x : Engine) (i : PointId) : (s.setEngine j x).point i = s.point i := rfl
@[simp] theorem State.point_setPort (s : State) (j : PortId) (x : Port) (i : PointId) : (s.setPort j x).point i = s.point i := rfl
@[simp] theorem State.point_setStoreBank (s : State) (j : Station) (x : Bank) (i : PointId) : (s.setStoreBank j x).point i = s.point i := rfl
@[simp] theorem State.point_setPointBank (s : State) (j : PointId) (x : Bank) (i : PointId) : (s.setPointBank j x).point i = s.point i := rfl
@[simp] theorem State.point_setTime (s : State) (x : Time) (i : PointId) : (s.setTime x).point i = s.point i := rfl
@[simp] theorem State.point_setCashbox (s : State) (x : Cashbox) (i : PointId) : (s.setCashbox x).point i = s.point i := rfl
@[simp] theorem State.point_setBus (s : State) (x : Bus) (i : PointId) : (s.setBus x).point i = s.point i := rfl
@[simp] theorem State.point_setReconciler (s : State) (x : Reconciler) (i : PointId) : (s.setReconciler x).point i = s.point i := rfl
@[simp] theorem State.point_setCountMemory (s : State) (x : CountMemory) (i : PointId) : (s.setCountMemory x).point i = s.point i := rfl
@[simp] theorem State.point_setStartUp (s : State) (x : StartUp) (i : PointId) : (s.setStartUp x).point i = s.point i := rfl
@[simp] theorem State.point_setFree (s : State) (x : Nat) (i : PointId) : (s.setFree x).point i = s.point i := rfl
@[simp] theorem State.point_setPending (s : State) (x : List Instr) (i : PointId) : (s.setPending x).point i = s.point i := rfl

@[simp] theorem State.engine_setStore (s : State) (j : Station) (x : Store) (i : EngineId) : (s.setStore j x).engine i = s.engine i := rfl
@[simp] theorem State.engine_setSlot (s : State) (j : Slot) (x : Option Rec) (i : EngineId) : (s.setSlot j x).engine i = s.engine i := rfl
@[simp] theorem State.engine_setPoint (s : State) (j : PointId) (x : Point) (i : EngineId) : (s.setPoint j x).engine i = s.engine i := rfl
@[simp] theorem State.engine_setPort (s : State) (j : PortId) (x : Port) (i : EngineId) : (s.setPort j x).engine i = s.engine i := rfl
@[simp] theorem State.engine_setStoreBank (s : State) (j : Station) (x : Bank) (i : EngineId) : (s.setStoreBank j x).engine i = s.engine i := rfl
@[simp] theorem State.engine_setPointBank (s : State) (j : PointId) (x : Bank) (i : EngineId) : (s.setPointBank j x).engine i = s.engine i := rfl
@[simp] theorem State.engine_setTime (s : State) (x : Time) (i : EngineId) : (s.setTime x).engine i = s.engine i := rfl
@[simp] theorem State.engine_setCashbox (s : State) (x : Cashbox) (i : EngineId) : (s.setCashbox x).engine i = s.engine i := rfl
@[simp] theorem State.engine_setBus (s : State) (x : Bus) (i : EngineId) : (s.setBus x).engine i = s.engine i := rfl
@[simp] theorem State.engine_setReconciler (s : State) (x : Reconciler) (i : EngineId) : (s.setReconciler x).engine i = s.engine i := rfl
@[simp] theorem State.engine_setCountMemory (s : State) (x : CountMemory) (i : EngineId) : (s.setCountMemory x).engine i = s.engine i := rfl
@[simp] theorem State.engine_setStartUp (s : State) (x : StartUp) (i : EngineId) : (s.setStartUp x).engine i = s.engine i := rfl
@[simp] theorem State.engine_setFree (s : State) (x : Nat) (i : EngineId) : (s.setFree x).engine i = s.engine i := rfl
@[simp] theorem State.engine_setPending (s : State) (x : List Instr) (i : EngineId) : (s.setPending x).engine i = s.engine i := rfl

@[simp] theorem State.port_setStore (s : State) (j : Station) (x : Store) (i : PortId) : (s.setStore j x).port i = s.port i := rfl
@[simp] theorem State.port_setSlot (s : State) (j : Slot) (x : Option Rec) (i : PortId) : (s.setSlot j x).port i = s.port i := rfl
@[simp] theorem State.port_setPoint (s : State) (j : PointId) (x : Point) (i : PortId) : (s.setPoint j x).port i = s.port i := rfl
@[simp] theorem State.port_setEngine (s : State) (j : EngineId) (x : Engine) (i : PortId) : (s.setEngine j x).port i = s.port i := rfl
@[simp] theorem State.port_setStoreBank (s : State) (j : Station) (x : Bank) (i : PortId) : (s.setStoreBank j x).port i = s.port i := rfl
@[simp] theorem State.port_setPointBank (s : State) (j : PointId) (x : Bank) (i : PortId) : (s.setPointBank j x).port i = s.port i := rfl
@[simp] theorem State.port_setTime (s : State) (x : Time) (i : PortId) : (s.setTime x).port i = s.port i := rfl
@[simp] theorem State.port_setCashbox (s : State) (x : Cashbox) (i : PortId) : (s.setCashbox x).port i = s.port i := rfl
@[simp] theorem State.port_setBus (s : State) (x : Bus) (i : PortId) : (s.setBus x).port i = s.port i := rfl
@[simp] theorem State.port_setReconciler (s : State) (x : Reconciler) (i : PortId) : (s.setReconciler x).port i = s.port i := rfl
@[simp] theorem State.port_setCountMemory (s : State) (x : CountMemory) (i : PortId) : (s.setCountMemory x).port i = s.port i := rfl
@[simp] theorem State.port_setStartUp (s : State) (x : StartUp) (i : PortId) : (s.setStartUp x).port i = s.port i := rfl
@[simp] theorem State.port_setFree (s : State) (x : Nat) (i : PortId) : (s.setFree x).port i = s.port i := rfl
@[simp] theorem State.port_setPending (s : State) (x : List Instr) (i : PortId) : (s.setPending x).port i = s.port i := rfl

@[simp] theorem State.pointBank_setStore (s : State) (j : Station) (x : Store) (i : PointId) : (s.setStore j x).pointBank i = s.pointBank i := rfl
@[simp] theorem State.pointBank_setSlot (s : State) (j : Slot) (x : Option Rec) (i : PointId) : (s.setSlot j x).pointBank i = s.pointBank i := rfl
@[simp] theorem State.pointBank_setPoint (s : State) (j : PointId) (x : Point) (i : PointId) : (s.setPoint j x).pointBank i = s.pointBank i := rfl
@[simp] theorem State.pointBank_setEngine (s : State) (j : EngineId) (x : Engine) (i : PointId) : (s.setEngine j x).pointBank i = s.pointBank i := rfl
@[simp] theorem State.pointBank_setPort (s : State) (j : PortId) (x : Port) (i : PointId) : (s.setPort j x).pointBank i = s.pointBank i := rfl
@[simp] theorem State.pointBank_setStoreBank (s : State) (j : Station) (x : Bank) (i : PointId) : (s.setStoreBank j x).pointBank i = s.pointBank i := rfl
@[simp] theorem State.pointBank_setTime (s : State) (x : Time) (i : PointId) : (s.setTime x).pointBank i = s.pointBank i := rfl
@[simp] theorem State.pointBank_setCashbox (s : State) (x : Cashbox) (i : PointId) : (s.setCashbox x).pointBank i = s.pointBank i := rfl
@[simp] theorem State.pointBank_setBus (s : State) (x : Bus) (i : PointId) : (s.setBus x).pointBank i = s.pointBank i := rfl
@[simp] theorem State.pointBank_setReconciler (s : State) (x : Reconciler) (i : PointId) : (s.setReconciler x).pointBank i = s.pointBank i := rfl
@[simp] theorem State.pointBank_setCountMemory (s : State) (x : CountMemory) (i : PointId) : (s.setCountMemory x).pointBank i = s.pointBank i := rfl
@[simp] theorem State.pointBank_setStartUp (s : State) (x : StartUp) (i : PointId) : (s.setStartUp x).pointBank i = s.pointBank i := rfl
@[simp] theorem State.pointBank_setFree (s : State) (x : Nat) (i : PointId) : (s.setFree x).pointBank i = s.pointBank i := rfl
@[simp] theorem State.pointBank_setPending (s : State) (x : List Instr) (i : PointId) : (s.setPending x).pointBank i = s.pointBank i := rfl

end Sys2Proof.Machine
end

