-- ==== Sys2Proof/Laws/Ops.lean ====
section
/-! SUPPORT. What the shared operations leave unchanged. -/

namespace Sys2Proof.Machine

@[simp] theorem State.updRec_keeps (s : State) (i : Slot) (f : Rec → Rec) :
    (s.updRec i f).pending = s.pending ∧ (s.updRec i f).time = s.time ∧ (s.updRec i f).stores = s.stores ∧
    (s.updRec i f).points = s.points ∧ (s.updRec i f).engines = s.engines ∧ (s.updRec i f).bus = s.bus ∧
    (s.updRec i f).reconciler = s.reconciler ∧ (s.updRec i f).storeBanks = s.storeBanks ∧
    (s.updRec i f).pointBanks = s.pointBanks ∧ (s.updRec i f).cashbox = s.cashbox ∧ (s.updRec i f).ports = s.ports ∧
    (s.updRec i f).pointSetup = s.pointSetup ∧ (s.updRec i f).system = s.system ∧
    (s.updRec i f).setupBlock = s.setupBlock ∧ (s.updRec i f).unsaved = s.unsaved ∧
    (s.updRec i f).setupFault = s.setupFault ∧ (s.updRec i f).countMemory = s.countMemory ∧
    (s.updRec i f).countLost = s.countLost ∧ (s.updRec i f).causes = s.causes ∧ (s.updRec i f).startUp = s.startUp ∧
    (s.updRec i f).free = s.free := by
  unfold State.updRec
  (repeat' split) <;> simp

@[simp] theorem State.setStoreState_keeps (s : State) (i : Station) (x : StoreState) :
    (s.setStoreState i x).pending = s.pending ∧ (s.setStoreState i x).time = s.time ∧
    (s.setStoreState i x).records = s.records ∧ (s.setStoreState i x).points = s.points ∧
    (s.setStoreState i x).engines = s.engines ∧ (s.setStoreState i x).bus = s.bus ∧
    (s.setStoreState i x).reconciler = s.reconciler ∧ (s.setStoreState i x).storeBanks = s.storeBanks ∧
    (s.setStoreState i x).pointBanks = s.pointBanks ∧ (s.setStoreState i x).cashbox = s.cashbox ∧
    (s.setStoreState i x).ports = s.ports ∧ (s.setStoreState i x).pointSetup = s.pointSetup ∧
    (s.setStoreState i x).system = s.system ∧ (s.setStoreState i x).setupBlock = s.setupBlock ∧
    (s.setStoreState i x).unsaved = s.unsaved ∧ (s.setStoreState i x).setupFault = s.setupFault ∧
    (s.setStoreState i x).countMemory = s.countMemory ∧ (s.setStoreState i x).countLost = s.countLost ∧
    (s.setStoreState i x).causes = s.causes ∧ (s.setStoreState i x).startUp = s.startUp ∧
    (s.setStoreState i x).free = s.free := by
  unfold State.setStoreState
  simp

@[simp] theorem State.unbindTag_keeps (s : State) (tag : Nat) :
    (s.unbindTag tag).pending = s.pending ∧ (s.unbindTag tag).time = s.time ∧ (s.unbindTag tag).records = s.records ∧
    (s.unbindTag tag).stores = s.stores ∧ (s.unbindTag tag).engines = s.engines ∧ (s.unbindTag tag).bus = s.bus ∧
    (s.unbindTag tag).reconciler = s.reconciler ∧ (s.unbindTag tag).storeBanks = s.storeBanks ∧
    (s.unbindTag tag).pointBanks = s.pointBanks ∧ (s.unbindTag tag).cashbox = s.cashbox ∧
    (s.unbindTag tag).ports = s.ports ∧ (s.unbindTag tag).pointSetup = s.pointSetup ∧
    (s.unbindTag tag).system = s.system ∧ (s.unbindTag tag).setupBlock = s.setupBlock ∧
    (s.unbindTag tag).unsaved = s.unsaved ∧ (s.unbindTag tag).setupFault = s.setupFault ∧
    (s.unbindTag tag).countMemory = s.countMemory ∧ (s.unbindTag tag).countLost = s.countLost ∧
    (s.unbindTag tag).causes = s.causes ∧ (s.unbindTag tag).startUp = s.startUp ∧ (s.unbindTag tag).free = s.free := by
  unfold State.unbindTag
  (repeat' split) <;> simp

@[simp] theorem State.freeSlot_keeps (s : State) (i : Slot) :
    (s.freeSlot i).pending = s.pending ∧ (s.freeSlot i).time = s.time ∧ (s.freeSlot i).stores = s.stores ∧
    (s.freeSlot i).engines = s.engines ∧ (s.freeSlot i).bus = s.bus ∧ (s.freeSlot i).reconciler = s.reconciler ∧
    (s.freeSlot i).storeBanks = s.storeBanks ∧ (s.freeSlot i).pointBanks = s.pointBanks ∧
    (s.freeSlot i).cashbox = s.cashbox ∧ (s.freeSlot i).ports = s.ports ∧ (s.freeSlot i).pointSetup = s.pointSetup ∧
    (s.freeSlot i).system = s.system ∧ (s.freeSlot i).setupBlock = s.setupBlock ∧ (s.freeSlot i).unsaved = s.unsaved ∧
    (s.freeSlot i).setupFault = s.setupFault ∧ (s.freeSlot i).countMemory = s.countMemory ∧
    (s.freeSlot i).countLost = s.countLost ∧ (s.freeSlot i).causes = s.causes ∧ (s.freeSlot i).startUp = s.startUp ∧
    (s.freeSlot i).free = s.free := by
  unfold State.freeSlot
  (repeat' split) <;> simp

@[simp] theorem State.latch_keeps (s : State) (k : Event) (x : Option PortId) :
    (s.latch k x).pending = s.pending ∧ (s.latch k x).time = s.time ∧ (s.latch k x).records = s.records ∧
    (s.latch k x).stores = s.stores ∧ (s.latch k x).points = s.points ∧ (s.latch k x).engines = s.engines ∧
    (s.latch k x).bus = s.bus ∧ (s.latch k x).reconciler = s.reconciler ∧ (s.latch k x).storeBanks = s.storeBanks ∧
    (s.latch k x).pointBanks = s.pointBanks ∧ (s.latch k x).cashbox = s.cashbox ∧
    (s.latch k x).pointSetup = s.pointSetup ∧ (s.latch k x).system = s.system ∧
    (s.latch k x).setupBlock = s.setupBlock ∧ (s.latch k x).unsaved = s.unsaved ∧
    (s.latch k x).setupFault = s.setupFault ∧ (s.latch k x).countMemory = s.countMemory ∧
    (s.latch k x).countLost = s.countLost ∧ (s.latch k x).causes = s.causes ∧ (s.latch k x).startUp = s.startUp ∧
    (s.latch k x).free = s.free := by
  unfold State.latch
  (try dsimp only)
  simp

@[simp] theorem State.latchAll_keeps (s : State) (ks : List Event) (x : Option PortId) :
    (s.latchAll ks x).pending = s.pending ∧ (s.latchAll ks x).time = s.time ∧ (s.latchAll ks x).records = s.records ∧
    (s.latchAll ks x).stores = s.stores ∧ (s.latchAll ks x).points = s.points ∧
    (s.latchAll ks x).engines = s.engines ∧ (s.latchAll ks x).bus = s.bus ∧
    (s.latchAll ks x).reconciler = s.reconciler ∧ (s.latchAll ks x).storeBanks = s.storeBanks ∧
    (s.latchAll ks x).pointBanks = s.pointBanks ∧ (s.latchAll ks x).cashbox = s.cashbox ∧
    (s.latchAll ks x).pointSetup = s.pointSetup ∧ (s.latchAll ks x).system = s.system ∧
    (s.latchAll ks x).setupBlock = s.setupBlock ∧ (s.latchAll ks x).unsaved = s.unsaved ∧
    (s.latchAll ks x).setupFault = s.setupFault ∧ (s.latchAll ks x).countMemory = s.countMemory ∧
    (s.latchAll ks x).countLost = s.countLost ∧ (s.latchAll ks x).causes = s.causes ∧
    (s.latchAll ks x).startUp = s.startUp ∧ (s.latchAll ks x).free = s.free := by
  unfold State.latchAll
  induction ks generalizing s with
  | nil => simp
  | cons k ks ih => simp [ih]

@[simp] theorem State.faultStore_keeps (s : State) (i : Station) (f : Capture) (x : Option PortId) :
    (s.faultStore i f x).pending = s.pending ∧ (s.faultStore i f x).time = s.time ∧
    (s.faultStore i f x).records = s.records ∧ (s.faultStore i f x).stores = s.stores ∧
    (s.faultStore i f x).points = s.points ∧ (s.faultStore i f x).engines = s.engines ∧
    (s.faultStore i f x).bus = s.bus ∧ (s.faultStore i f x).reconciler = s.reconciler ∧
    (s.faultStore i f x).pointBanks = s.pointBanks ∧ (s.faultStore i f x).cashbox = s.cashbox ∧
    (s.faultStore i f x).pointSetup = s.pointSetup ∧ (s.faultStore i f x).system = s.system ∧
    (s.faultStore i f x).setupBlock = s.setupBlock ∧ (s.faultStore i f x).unsaved = s.unsaved ∧
    (s.faultStore i f x).setupFault = s.setupFault ∧ (s.faultStore i f x).countMemory = s.countMemory ∧
    (s.faultStore i f x).countLost = s.countLost ∧ (s.faultStore i f x).causes = s.causes ∧
    (s.faultStore i f x).startUp = s.startUp ∧ (s.faultStore i f x).free = s.free := by
  unfold State.faultStore
  simp

@[simp] theorem State.faultPoint_keeps (s : State) (p : PointId) (f : Capture) :
    (s.faultPoint p f).pending = s.pending ∧ (s.faultPoint p f).time = s.time ∧
    (s.faultPoint p f).records = s.records ∧ (s.faultPoint p f).stores = s.stores ∧
    (s.faultPoint p f).points = s.points ∧ (s.faultPoint p f).engines = s.engines ∧ (s.faultPoint p f).bus = s.bus ∧
    (s.faultPoint p f).reconciler = s.reconciler ∧ (s.faultPoint p f).storeBanks = s.storeBanks ∧
    (s.faultPoint p f).cashbox = s.cashbox ∧ (s.faultPoint p f).pointSetup = s.pointSetup ∧
    (s.faultPoint p f).system = s.system ∧ (s.faultPoint p f).setupBlock = s.setupBlock ∧
    (s.faultPoint p f).unsaved = s.unsaved ∧ (s.faultPoint p f).setupFault = s.setupFault ∧
    (s.faultPoint p f).countMemory = s.countMemory ∧ (s.faultPoint p f).countLost = s.countLost ∧
    (s.faultPoint p f).causes = s.causes ∧ (s.faultPoint p f).startUp = s.startUp ∧ (s.faultPoint p f).free = s.free := by
  unfold State.faultPoint
  simp

@[simp] theorem State.writeCounts_keeps (s : State) :
    (s.writeCounts).pending = s.pending ∧ (s.writeCounts).time = s.time ∧ (s.writeCounts).records = s.records ∧
    (s.writeCounts).stores = s.stores ∧ (s.writeCounts).points = s.points ∧ (s.writeCounts).engines = s.engines ∧
    (s.writeCounts).bus = s.bus ∧ (s.writeCounts).reconciler = s.reconciler ∧
    (s.writeCounts).storeBanks = s.storeBanks ∧ (s.writeCounts).pointBanks = s.pointBanks ∧
    (s.writeCounts).cashbox = s.cashbox ∧ (s.writeCounts).ports = s.ports ∧
    (s.writeCounts).pointSetup = s.pointSetup ∧ (s.writeCounts).system = s.system ∧
    (s.writeCounts).setupBlock = s.setupBlock ∧ (s.writeCounts).unsaved = s.unsaved ∧
    (s.writeCounts).setupFault = s.setupFault ∧ (s.writeCounts).countLost = s.countLost ∧
    (s.writeCounts).causes = s.causes ∧ (s.writeCounts).startUp = s.startUp ∧ (s.writeCounts).free = s.free := by
  unfold State.writeCounts
  (try dsimp only)
  (repeat' split) <;> simp

@[simp] theorem State.setCount_keeps (s : State) (i : Station) (n : Nat) (x : Option PortId) :
    (s.setCount i n x).pending = s.pending ∧ (s.setCount i n x).time = s.time ∧
    (s.setCount i n x).records = s.records ∧ (s.setCount i n x).points = s.points ∧
    (s.setCount i n x).engines = s.engines ∧ (s.setCount i n x).bus = s.bus ∧
    (s.setCount i n x).reconciler = s.reconciler ∧ (s.setCount i n x).storeBanks = s.storeBanks ∧
    (s.setCount i n x).pointBanks = s.pointBanks ∧ (s.setCount i n x).cashbox = s.cashbox ∧
    (s.setCount i n x).pointSetup = s.pointSetup ∧ (s.setCount i n x).system = s.system ∧
    (s.setCount i n x).setupBlock = s.setupBlock ∧ (s.setCount i n x).unsaved = s.unsaved ∧
    (s.setCount i n x).setupFault = s.setupFault ∧ (s.setCount i n x).countLost = s.countLost ∧
    (s.setCount i n x).causes = s.causes ∧ (s.setCount i n x).startUp = s.startUp ∧ (s.setCount i n x).free = s.free := by
  unfold State.setCount
  (try dsimp only)
  (repeat' split) <;> simp

@[simp] theorem State.countOut_keeps (s : State) (i : Station) (n : Nat) (x : Option PortId) :
    (s.countOut i n x).pending = s.pending ∧ (s.countOut i n x).time = s.time ∧
    (s.countOut i n x).records = s.records ∧ (s.countOut i n x).points = s.points ∧
    (s.countOut i n x).engines = s.engines ∧ (s.countOut i n x).bus = s.bus ∧
    (s.countOut i n x).reconciler = s.reconciler ∧ (s.countOut i n x).storeBanks = s.storeBanks ∧
    (s.countOut i n x).pointBanks = s.pointBanks ∧ (s.countOut i n x).cashbox = s.cashbox ∧
    (s.countOut i n x).pointSetup = s.pointSetup ∧ (s.countOut i n x).system = s.system ∧
    (s.countOut i n x).setupBlock = s.setupBlock ∧ (s.countOut i n x).unsaved = s.unsaved ∧
    (s.countOut i n x).setupFault = s.setupFault ∧ (s.countOut i n x).countLost = s.countLost ∧
    (s.countOut i n x).causes = s.causes ∧ (s.countOut i n x).startUp = s.startUp ∧ (s.countOut i n x).free = s.free := by
  unfold State.countOut
  (try dsimp only)
  simp

@[simp] theorem State.boxRefresh_keeps (s : State) (x : Option PortId) :
    (s.boxRefresh x).pending = s.pending ∧ (s.boxRefresh x).time = s.time ∧ (s.boxRefresh x).records = s.records ∧
    (s.boxRefresh x).stores = s.stores ∧ (s.boxRefresh x).points = s.points ∧ (s.boxRefresh x).engines = s.engines ∧
    (s.boxRefresh x).bus = s.bus ∧ (s.boxRefresh x).reconciler = s.reconciler ∧
    (s.boxRefresh x).storeBanks = s.storeBanks ∧ (s.boxRefresh x).pointBanks = s.pointBanks ∧
    (s.boxRefresh x).pointSetup = s.pointSetup ∧ (s.boxRefresh x).system = s.system ∧
    (s.boxRefresh x).setupBlock = s.setupBlock ∧ (s.boxRefresh x).unsaved = s.unsaved ∧
    (s.boxRefresh x).setupFault = s.setupFault ∧ (s.boxRefresh x).countMemory = s.countMemory ∧
    (s.boxRefresh x).countLost = s.countLost ∧ (s.boxRefresh x).causes = s.causes ∧
    (s.boxRefresh x).startUp = s.startUp ∧ (s.boxRefresh x).free = s.free := by
  unfold State.boxRefresh
  (try dsimp only)
  simp

@[simp] theorem State.countBox_keeps (s : State) (d : Nat) :
    (s.countBox d).pending = s.pending ∧ (s.countBox d).time = s.time ∧ (s.countBox d).records = s.records ∧
    (s.countBox d).stores = s.stores ∧ (s.countBox d).points = s.points ∧ (s.countBox d).engines = s.engines ∧
    (s.countBox d).bus = s.bus ∧ (s.countBox d).reconciler = s.reconciler ∧ (s.countBox d).storeBanks = s.storeBanks ∧
    (s.countBox d).pointBanks = s.pointBanks ∧ (s.countBox d).pointSetup = s.pointSetup ∧
    (s.countBox d).system = s.system ∧ (s.countBox d).setupBlock = s.setupBlock ∧ (s.countBox d).unsaved = s.unsaved ∧
    (s.countBox d).setupFault = s.setupFault ∧ (s.countBox d).countLost = s.countLost ∧
    (s.countBox d).causes = s.causes ∧ (s.countBox d).startUp = s.startUp ∧ (s.countBox d).free = s.free := by
  unfold State.countBox
  simp

@[simp] theorem State.countBoxTimes_keeps (s : State) (d n : Nat) :
    (s.countBoxTimes d n).pending = s.pending ∧ (s.countBoxTimes d n).time = s.time ∧
    (s.countBoxTimes d n).records = s.records ∧ (s.countBoxTimes d n).stores = s.stores ∧
    (s.countBoxTimes d n).points = s.points ∧ (s.countBoxTimes d n).engines = s.engines ∧
    (s.countBoxTimes d n).bus = s.bus ∧ (s.countBoxTimes d n).reconciler = s.reconciler ∧
    (s.countBoxTimes d n).storeBanks = s.storeBanks ∧ (s.countBoxTimes d n).pointBanks = s.pointBanks ∧
    (s.countBoxTimes d n).pointSetup = s.pointSetup ∧ (s.countBoxTimes d n).system = s.system ∧
    (s.countBoxTimes d n).setupBlock = s.setupBlock ∧ (s.countBoxTimes d n).unsaved = s.unsaved ∧
    (s.countBoxTimes d n).setupFault = s.setupFault ∧ (s.countBoxTimes d n).countLost = s.countLost ∧
    (s.countBoxTimes d n).causes = s.causes ∧ (s.countBoxTimes d n).startUp = s.startUp ∧
    (s.countBoxTimes d n).free = s.free := by
  induction n generalizing s with
  | zero => simp [State.countBoxTimes]
  | succ n ih => simp [State.countBoxTimes, ih]

@[simp] theorem State.unreserve_keeps (s : State) (l : List Entry) :
    (s.unreserve l).pending = s.pending ∧ (s.unreserve l).time = s.time ∧ (s.unreserve l).records = s.records ∧
    (s.unreserve l).points = s.points ∧ (s.unreserve l).engines = s.engines ∧ (s.unreserve l).bus = s.bus ∧
    (s.unreserve l).reconciler = s.reconciler ∧ (s.unreserve l).storeBanks = s.storeBanks ∧
    (s.unreserve l).pointBanks = s.pointBanks ∧ (s.unreserve l).cashbox = s.cashbox ∧
    (s.unreserve l).ports = s.ports ∧ (s.unreserve l).pointSetup = s.pointSetup ∧ (s.unreserve l).system = s.system ∧
    (s.unreserve l).setupBlock = s.setupBlock ∧ (s.unreserve l).unsaved = s.unsaved ∧
    (s.unreserve l).setupFault = s.setupFault ∧ (s.unreserve l).countMemory = s.countMemory ∧
    (s.unreserve l).countLost = s.countLost ∧ (s.unreserve l).causes = s.causes ∧
    (s.unreserve l).startUp = s.startUp ∧ (s.unreserve l).free = s.free := by
  induction l generalizing s with
  | nil => simp [State.unreserve]
  | cons en l ih => simp [State.unreserve, ih]

@[simp] theorem State.reserve_keeps (s : State) (l : List Entry) :
    (s.reserve l).pending = s.pending ∧ (s.reserve l).time = s.time ∧ (s.reserve l).records = s.records ∧
    (s.reserve l).points = s.points ∧ (s.reserve l).engines = s.engines ∧ (s.reserve l).bus = s.bus ∧
    (s.reserve l).reconciler = s.reconciler ∧ (s.reserve l).storeBanks = s.storeBanks ∧
    (s.reserve l).pointBanks = s.pointBanks ∧ (s.reserve l).cashbox = s.cashbox ∧ (s.reserve l).ports = s.ports ∧
    (s.reserve l).pointSetup = s.pointSetup ∧ (s.reserve l).system = s.system ∧
    (s.reserve l).setupBlock = s.setupBlock ∧ (s.reserve l).unsaved = s.unsaved ∧
    (s.reserve l).setupFault = s.setupFault ∧ (s.reserve l).countMemory = s.countMemory ∧
    (s.reserve l).countLost = s.countLost ∧ (s.reserve l).causes = s.causes ∧ (s.reserve l).startUp = s.startUp ∧
    (s.reserve l).free = s.free := by
  induction l generalizing s with
  | nil => simp [State.reserve]
  | cons en l ih => simp [State.reserve, ih]

@[simp] theorem State.release_keeps (s : State) (i : Slot) :
    (s.release i).pending = s.pending ∧ (s.release i).time = s.time ∧ (s.release i).points = s.points ∧
    (s.release i).engines = s.engines ∧ (s.release i).bus = s.bus ∧ (s.release i).reconciler = s.reconciler ∧
    (s.release i).storeBanks = s.storeBanks ∧ (s.release i).pointBanks = s.pointBanks ∧
    (s.release i).cashbox = s.cashbox ∧ (s.release i).ports = s.ports ∧ (s.release i).pointSetup = s.pointSetup ∧
    (s.release i).system = s.system ∧ (s.release i).setupBlock = s.setupBlock ∧ (s.release i).unsaved = s.unsaved ∧
    (s.release i).setupFault = s.setupFault ∧ (s.release i).countMemory = s.countMemory ∧
    (s.release i).countLost = s.countLost ∧ (s.release i).causes = s.causes ∧ (s.release i).startUp = s.startUp ∧
    (s.release i).free = s.free := by
  unfold State.release
  (try dsimp only)
  (repeat' split) <;> simp

@[simp] theorem State.unsettle_keeps (s : State) (i : Slot) :
    (s.unsettle i).pending = s.pending ∧ (s.unsettle i).time = s.time ∧ (s.unsettle i).points = s.points ∧
    (s.unsettle i).engines = s.engines ∧ (s.unsettle i).bus = s.bus ∧ (s.unsettle i).reconciler = s.reconciler ∧
    (s.unsettle i).storeBanks = s.storeBanks ∧ (s.unsettle i).pointBanks = s.pointBanks ∧
    (s.unsettle i).cashbox = s.cashbox ∧ (s.unsettle i).ports = s.ports ∧ (s.unsettle i).pointSetup = s.pointSetup ∧
    (s.unsettle i).system = s.system ∧ (s.unsettle i).setupBlock = s.setupBlock ∧ (s.unsettle i).unsaved = s.unsaved ∧
    (s.unsettle i).setupFault = s.setupFault ∧ (s.unsettle i).countMemory = s.countMemory ∧
    (s.unsettle i).countLost = s.countLost ∧ (s.unsettle i).causes = s.causes ∧ (s.unsettle i).startUp = s.startUp ∧
    (s.unsettle i).free = s.free := by
  unfold State.unsettle
  (repeat' split) <;> simp

@[simp] theorem State.partialRelease_keeps (s : State) (i : Slot) (st : Station) (n : Nat) :
    (s.partialRelease i st n).pending = s.pending ∧ (s.partialRelease i st n).time = s.time ∧
    (s.partialRelease i st n).points = s.points ∧ (s.partialRelease i st n).engines = s.engines ∧
    (s.partialRelease i st n).bus = s.bus ∧ (s.partialRelease i st n).reconciler = s.reconciler ∧
    (s.partialRelease i st n).storeBanks = s.storeBanks ∧ (s.partialRelease i st n).pointBanks = s.pointBanks ∧
    (s.partialRelease i st n).cashbox = s.cashbox ∧ (s.partialRelease i st n).ports = s.ports ∧
    (s.partialRelease i st n).pointSetup = s.pointSetup ∧ (s.partialRelease i st n).system = s.system ∧
    (s.partialRelease i st n).setupBlock = s.setupBlock ∧ (s.partialRelease i st n).unsaved = s.unsaved ∧
    (s.partialRelease i st n).setupFault = s.setupFault ∧ (s.partialRelease i st n).countMemory = s.countMemory ∧
    (s.partialRelease i st n).countLost = s.countLost ∧ (s.partialRelease i st n).causes = s.causes ∧
    (s.partialRelease i st n).startUp = s.startUp ∧ (s.partialRelease i st n).free = s.free := by
  unfold State.partialRelease
  (try dsimp only)
  (repeat' split) <;> simp

@[simp] theorem State.evictSettled_keeps (s : State) (i : Station) (n : Nat) :
    (s.evictSettled i n).pending = s.pending ∧ (s.evictSettled i n).time = s.time ∧
    (s.evictSettled i n).points = s.points ∧ (s.evictSettled i n).engines = s.engines ∧
    (s.evictSettled i n).bus = s.bus ∧ (s.evictSettled i n).reconciler = s.reconciler ∧
    (s.evictSettled i n).storeBanks = s.storeBanks ∧ (s.evictSettled i n).pointBanks = s.pointBanks ∧
    (s.evictSettled i n).cashbox = s.cashbox ∧ (s.evictSettled i n).ports = s.ports ∧
    (s.evictSettled i n).pointSetup = s.pointSetup ∧ (s.evictSettled i n).system = s.system ∧
    (s.evictSettled i n).setupBlock = s.setupBlock ∧ (s.evictSettled i n).unsaved = s.unsaved ∧
    (s.evictSettled i n).setupFault = s.setupFault ∧ (s.evictSettled i n).countMemory = s.countMemory ∧
    (s.evictSettled i n).countLost = s.countLost ∧ (s.evictSettled i n).causes = s.causes ∧
    (s.evictSettled i n).startUp = s.startUp ∧ (s.evictSettled i n).free = s.free := by
  induction n generalizing s with
  | zero => simp [State.evictSettled]
  | succ n ih => unfold State.evictSettled; (repeat' split) <;> simp [ih]

@[simp] theorem State.evictPaying_keeps (s : State) (i : Station) (n : Nat) :
    (s.evictPaying i n).pending = s.pending ∧ (s.evictPaying i n).time = s.time ∧
    (s.evictPaying i n).points = s.points ∧ (s.evictPaying i n).engines = s.engines ∧
    (s.evictPaying i n).bus = s.bus ∧ (s.evictPaying i n).reconciler = s.reconciler ∧
    (s.evictPaying i n).storeBanks = s.storeBanks ∧ (s.evictPaying i n).pointBanks = s.pointBanks ∧
    (s.evictPaying i n).cashbox = s.cashbox ∧ (s.evictPaying i n).ports = s.ports ∧
    (s.evictPaying i n).pointSetup = s.pointSetup ∧ (s.evictPaying i n).system = s.system ∧
    (s.evictPaying i n).setupBlock = s.setupBlock ∧ (s.evictPaying i n).unsaved = s.unsaved ∧
    (s.evictPaying i n).setupFault = s.setupFault ∧ (s.evictPaying i n).countMemory = s.countMemory ∧
    (s.evictPaying i n).countLost = s.countLost ∧ (s.evictPaying i n).causes = s.causes ∧
    (s.evictPaying i n).startUp = s.startUp ∧ (s.evictPaying i n).free = s.free := by
  induction n generalizing s with
  | zero => simp [State.evictPaying]
  | succ n ih => unfold State.evictPaying; (repeat' split) <;> simp [ih]

@[simp] theorem State.evict_keeps (s : State) (i : Station) :
    (s.evict i).pending = s.pending ∧ (s.evict i).time = s.time ∧ (s.evict i).points = s.points ∧
    (s.evict i).engines = s.engines ∧ (s.evict i).bus = s.bus ∧ (s.evict i).reconciler = s.reconciler ∧
    (s.evict i).storeBanks = s.storeBanks ∧ (s.evict i).pointBanks = s.pointBanks ∧ (s.evict i).cashbox = s.cashbox ∧
    (s.evict i).pointSetup = s.pointSetup ∧ (s.evict i).system = s.system ∧ (s.evict i).setupBlock = s.setupBlock ∧
    (s.evict i).unsaved = s.unsaved ∧ (s.evict i).setupFault = s.setupFault ∧
    (s.evict i).countMemory = s.countMemory ∧ (s.evict i).countLost = s.countLost ∧ (s.evict i).causes = s.causes ∧
    (s.evict i).startUp = s.startUp ∧ (s.evict i).free = s.free := by
  unfold State.evict
  (repeat' split) <;> simp

@[simp] theorem State.reach_keeps (s : State) (t : Time) (n : Nat) :
    (s.reach t n).pending = s.pending ∧ (s.reach t n).records = s.records ∧ (s.reach t n).stores = s.stores ∧
    (s.reach t n).points = s.points ∧ (s.reach t n).engines = s.engines ∧ (s.reach t n).bus = s.bus ∧
    (s.reach t n).reconciler = s.reconciler ∧ (s.reach t n).storeBanks = s.storeBanks ∧
    (s.reach t n).pointBanks = s.pointBanks ∧ (s.reach t n).cashbox = s.cashbox ∧ (s.reach t n).ports = s.ports ∧
    (s.reach t n).pointSetup = s.pointSetup ∧ (s.reach t n).system = s.system ∧
    (s.reach t n).setupBlock = s.setupBlock ∧ (s.reach t n).unsaved = s.unsaved ∧
    (s.reach t n).setupFault = s.setupFault ∧ (s.reach t n).countMemory = s.countMemory ∧
    (s.reach t n).countLost = s.countLost ∧ (s.reach t n).causes = s.causes ∧ (s.reach t n).startUp = s.startUp ∧
    (s.reach t n).free = s.free := by
  unfold State.reach
  (repeat' split) <;> simp

end Sys2Proof.Machine
end

