-- ==== Sys2Proof/Laws/Bus.lean ====
section
/-! SUPPORT. What the operations of the tube bus and of the work list leave unchanged. -/

namespace Sys2Proof.Machine

@[simp] theorem State.requestBus_keeps (s : State) (r : Requester) :
    (s.requestBus r).pending = s.pending ∧ (s.requestBus r).time = s.time ∧ (s.requestBus r).records = s.records ∧
    (s.requestBus r).stores = s.stores ∧ (s.requestBus r).points = s.points ∧ (s.requestBus r).engines = s.engines ∧
    (s.requestBus r).reconciler = s.reconciler ∧ (s.requestBus r).storeBanks = s.storeBanks ∧
    (s.requestBus r).pointBanks = s.pointBanks ∧ (s.requestBus r).cashbox = s.cashbox ∧
    (s.requestBus r).ports = s.ports ∧ (s.requestBus r).pointSetup = s.pointSetup ∧
    (s.requestBus r).system = s.system ∧ (s.requestBus r).setupBlock = s.setupBlock ∧
    (s.requestBus r).unsaved = s.unsaved ∧ (s.requestBus r).setupFault = s.setupFault ∧
    (s.requestBus r).countMemory = s.countMemory ∧ (s.requestBus r).countLost = s.countLost ∧
    (s.requestBus r).causes = s.causes ∧ (s.requestBus r).startUp = s.startUp ∧ (s.requestBus r).free = s.free := by
  unfold State.requestBus
  dsimp only
  (repeat' split) <;> simp

@[simp] theorem State.passBus_keeps (s : State) :
    (s.passBus).pending = s.pending ∧ (s.passBus).time = s.time ∧ (s.passBus).records = s.records ∧
    (s.passBus).stores = s.stores ∧ (s.passBus).points = s.points ∧ (s.passBus).engines = s.engines ∧
    (s.passBus).reconciler = s.reconciler ∧ (s.passBus).storeBanks = s.storeBanks ∧
    (s.passBus).pointBanks = s.pointBanks ∧ (s.passBus).cashbox = s.cashbox ∧ (s.passBus).ports = s.ports ∧
    (s.passBus).pointSetup = s.pointSetup ∧ (s.passBus).system = s.system ∧ (s.passBus).setupBlock = s.setupBlock ∧
    (s.passBus).unsaved = s.unsaved ∧ (s.passBus).setupFault = s.setupFault ∧
    (s.passBus).countMemory = s.countMemory ∧ (s.passBus).countLost = s.countLost ∧ (s.passBus).causes = s.causes ∧
    (s.passBus).startUp = s.startUp ∧ (s.passBus).free = s.free := by
  unfold State.passBus
  simp

@[simp] theorem State.withdraw_keeps (s : State) (r : Requester) :
    (s.withdraw r).pending = s.pending ∧ (s.withdraw r).time = s.time ∧ (s.withdraw r).records = s.records ∧
    (s.withdraw r).stores = s.stores ∧ (s.withdraw r).points = s.points ∧ (s.withdraw r).engines = s.engines ∧
    (s.withdraw r).reconciler = s.reconciler ∧ (s.withdraw r).storeBanks = s.storeBanks ∧
    (s.withdraw r).pointBanks = s.pointBanks ∧ (s.withdraw r).cashbox = s.cashbox ∧ (s.withdraw r).ports = s.ports ∧
    (s.withdraw r).pointSetup = s.pointSetup ∧ (s.withdraw r).system = s.system ∧
    (s.withdraw r).setupBlock = s.setupBlock ∧ (s.withdraw r).unsaved = s.unsaved ∧
    (s.withdraw r).setupFault = s.setupFault ∧ (s.withdraw r).countMemory = s.countMemory ∧
    (s.withdraw r).countLost = s.countLost ∧ (s.withdraw r).causes = s.causes ∧ (s.withdraw r).startUp = s.startUp ∧
    (s.withdraw r).free = s.free := by
  unfold State.withdraw
  dsimp only
  (repeat' split) <;> simp

@[simp] theorem State.giveUpBus_keeps (s : State) (r : Requester) :
    (s.giveUpBus r).pending = s.pending ∧ (s.giveUpBus r).time = s.time ∧ (s.giveUpBus r).records = s.records ∧
    (s.giveUpBus r).stores = s.stores ∧ (s.giveUpBus r).points = s.points ∧ (s.giveUpBus r).engines = s.engines ∧
    (s.giveUpBus r).reconciler = s.reconciler ∧ (s.giveUpBus r).storeBanks = s.storeBanks ∧
    (s.giveUpBus r).pointBanks = s.pointBanks ∧ (s.giveUpBus r).cashbox = s.cashbox ∧
    (s.giveUpBus r).ports = s.ports ∧ (s.giveUpBus r).pointSetup = s.pointSetup ∧ (s.giveUpBus r).system = s.system ∧
    (s.giveUpBus r).setupBlock = s.setupBlock ∧ (s.giveUpBus r).unsaved = s.unsaved ∧
    (s.giveUpBus r).setupFault = s.setupFault ∧ (s.giveUpBus r).countMemory = s.countMemory ∧
    (s.giveUpBus r).countLost = s.countLost ∧ (s.giveUpBus r).causes = s.causes ∧
    (s.giveUpBus r).startUp = s.startUp ∧ (s.giveUpBus r).free = s.free := by
  unfold State.giveUpBus
  dsimp only
  (repeat' split) <;> simp

@[simp] theorem State.sendRequest_keeps (s : State) (r : Requester) (i : Station) (op : TubeOp) :
    (s.sendRequest r i op).pending = s.pending ∧ (s.sendRequest r i op).time = s.time ∧
    (s.sendRequest r i op).records = s.records ∧ (s.sendRequest r i op).points = s.points ∧
    (s.sendRequest r i op).engines = s.engines ∧ (s.sendRequest r i op).reconciler = s.reconciler ∧
    (s.sendRequest r i op).storeBanks = s.storeBanks ∧ (s.sendRequest r i op).pointBanks = s.pointBanks ∧
    (s.sendRequest r i op).cashbox = s.cashbox ∧ (s.sendRequest r i op).ports = s.ports ∧
    (s.sendRequest r i op).pointSetup = s.pointSetup ∧ (s.sendRequest r i op).system = s.system ∧
    (s.sendRequest r i op).setupBlock = s.setupBlock ∧ (s.sendRequest r i op).unsaved = s.unsaved ∧
    (s.sendRequest r i op).setupFault = s.setupFault ∧ (s.sendRequest r i op).countMemory = s.countMemory ∧
    (s.sendRequest r i op).countLost = s.countLost ∧ (s.sendRequest r i op).causes = s.causes ∧
    (s.sendRequest r i op).startUp = s.startUp ∧ (s.sendRequest r i op).free = s.free := by
  unfold State.sendRequest
  (try dsimp only)
  simp

@[simp] theorem State.setWork_keeps (s : State) (w : List Work) :
    (s.setWork w).pending = s.pending ∧ (s.setWork w).time = s.time ∧ (s.setWork w).records = s.records ∧
    (s.setWork w).stores = s.stores ∧ (s.setWork w).points = s.points ∧ (s.setWork w).engines = s.engines ∧
    (s.setWork w).bus = s.bus ∧ (s.setWork w).storeBanks = s.storeBanks ∧ (s.setWork w).pointBanks = s.pointBanks ∧
    (s.setWork w).cashbox = s.cashbox ∧ (s.setWork w).ports = s.ports ∧ (s.setWork w).pointSetup = s.pointSetup ∧
    (s.setWork w).system = s.system ∧ (s.setWork w).setupBlock = s.setupBlock ∧ (s.setWork w).unsaved = s.unsaved ∧
    (s.setWork w).setupFault = s.setupFault ∧ (s.setWork w).countMemory = s.countMemory ∧
    (s.setWork w).countLost = s.countLost ∧ (s.setWork w).causes = s.causes ∧ (s.setWork w).startUp = s.startUp ∧
    (s.setWork w).free = s.free := by
  unfold State.setWork
  (try dsimp only)
  simp

@[simp] theorem State.kick_keeps (s : State) :
    (s.kick).pending = s.pending ∧ (s.kick).time = s.time ∧ (s.kick).records = s.records ∧
    (s.kick).stores = s.stores ∧ (s.kick).points = s.points ∧ (s.kick).engines = s.engines ∧
    (s.kick).reconciler = s.reconciler ∧ (s.kick).storeBanks = s.storeBanks ∧ (s.kick).pointBanks = s.pointBanks ∧
    (s.kick).cashbox = s.cashbox ∧ (s.kick).ports = s.ports ∧ (s.kick).pointSetup = s.pointSetup ∧
    (s.kick).system = s.system ∧ (s.kick).setupBlock = s.setupBlock ∧ (s.kick).unsaved = s.unsaved ∧
    (s.kick).setupFault = s.setupFault ∧ (s.kick).countMemory = s.countMemory ∧ (s.kick).countLost = s.countLost ∧
    (s.kick).causes = s.causes ∧ (s.kick).startUp = s.startUp ∧ (s.kick).free = s.free := by
  unfold State.kick
  (repeat' split) <;> simp

@[simp] theorem State.place_keeps (s : State) (w : Work) :
    (s.place w).pending = s.pending ∧ (s.place w).time = s.time ∧ (s.place w).records = s.records ∧
    (s.place w).stores = s.stores ∧ (s.place w).points = s.points ∧ (s.place w).engines = s.engines ∧
    (s.place w).bus = s.bus ∧ (s.place w).storeBanks = s.storeBanks ∧ (s.place w).pointBanks = s.pointBanks ∧
    (s.place w).cashbox = s.cashbox ∧ (s.place w).ports = s.ports ∧ (s.place w).pointSetup = s.pointSetup ∧
    (s.place w).system = s.system ∧ (s.place w).setupBlock = s.setupBlock ∧ (s.place w).unsaved = s.unsaved ∧
    (s.place w).setupFault = s.setupFault ∧ (s.place w).countMemory = s.countMemory ∧
    (s.place w).countLost = s.countLost ∧ (s.place w).causes = s.causes ∧ (s.place w).startUp = s.startUp ∧
    (s.place w).free = s.free := by
  unfold State.place
  simp

@[simp] theorem State.changeInFlight_keeps (s : State) (f : Work → Work) :
    (s.changeInFlight f).pending = s.pending ∧ (s.changeInFlight f).time = s.time ∧
    (s.changeInFlight f).records = s.records ∧ (s.changeInFlight f).stores = s.stores ∧
    (s.changeInFlight f).points = s.points ∧ (s.changeInFlight f).engines = s.engines ∧
    (s.changeInFlight f).bus = s.bus ∧ (s.changeInFlight f).storeBanks = s.storeBanks ∧
    (s.changeInFlight f).pointBanks = s.pointBanks ∧ (s.changeInFlight f).cashbox = s.cashbox ∧
    (s.changeInFlight f).ports = s.ports ∧ (s.changeInFlight f).pointSetup = s.pointSetup ∧
    (s.changeInFlight f).system = s.system ∧ (s.changeInFlight f).setupBlock = s.setupBlock ∧
    (s.changeInFlight f).unsaved = s.unsaved ∧ (s.changeInFlight f).setupFault = s.setupFault ∧
    (s.changeInFlight f).countMemory = s.countMemory ∧ (s.changeInFlight f).countLost = s.countLost ∧
    (s.changeInFlight f).causes = s.causes ∧ (s.changeInFlight f).startUp = s.startUp ∧
    (s.changeInFlight f).free = s.free := by
  unfold State.changeInFlight
  (repeat' split) <;> simp

@[simp] theorem State.changeWaiting_keeps (s : State) (f : List Work → List Work) :
    (s.changeWaiting f).pending = s.pending ∧ (s.changeWaiting f).time = s.time ∧
    (s.changeWaiting f).records = s.records ∧ (s.changeWaiting f).stores = s.stores ∧
    (s.changeWaiting f).points = s.points ∧ (s.changeWaiting f).engines = s.engines ∧
    (s.changeWaiting f).bus = s.bus ∧ (s.changeWaiting f).storeBanks = s.storeBanks ∧
    (s.changeWaiting f).pointBanks = s.pointBanks ∧ (s.changeWaiting f).cashbox = s.cashbox ∧
    (s.changeWaiting f).ports = s.ports ∧ (s.changeWaiting f).pointSetup = s.pointSetup ∧
    (s.changeWaiting f).system = s.system ∧ (s.changeWaiting f).setupBlock = s.setupBlock ∧
    (s.changeWaiting f).unsaved = s.unsaved ∧ (s.changeWaiting f).setupFault = s.setupFault ∧
    (s.changeWaiting f).countMemory = s.countMemory ∧ (s.changeWaiting f).countLost = s.countLost ∧
    (s.changeWaiting f).causes = s.causes ∧ (s.changeWaiting f).startUp = s.startUp ∧
    (s.changeWaiting f).free = s.free := by
  unfold State.changeWaiting
  simp

/-- What a read joins keeps everything but the work list. -/
theorem State.joinRead_keeps {s t : State} {w : Work} (h : s.joinRead w = some t) :
    t.pending = s.pending ∧ t.time = s.time ∧ t.records = s.records ∧ t.stores = s.stores ∧
    t.points = s.points ∧ t.engines = s.engines ∧ t.bus = s.bus ∧ t.storeBanks = s.storeBanks ∧
    t.pointBanks = s.pointBanks ∧ t.cashbox = s.cashbox ∧ t.ports = s.ports ∧ t.pointSetup = s.pointSetup ∧
    t.system = s.system ∧ t.setupBlock = s.setupBlock ∧ t.unsaved = s.unsaved ∧ t.setupFault = s.setupFault ∧
    t.countMemory = s.countMemory ∧ t.countLost = s.countLost ∧ t.causes = s.causes ∧ t.startUp = s.startUp ∧
    t.free = s.free := by
  unfold State.joinRead at h
  dsimp only at h
  split at h
  · cases h; simp
  · obtain ⟨d, -, rfl⟩ := Option.map_eq_some_iff.mp h
    simp

@[simp] theorem State.placeRead_keeps (s : State) (w : Work) :
    (s.placeRead w).pending = s.pending ∧ (s.placeRead w).time = s.time ∧ (s.placeRead w).records = s.records ∧
    (s.placeRead w).stores = s.stores ∧ (s.placeRead w).points = s.points ∧ (s.placeRead w).engines = s.engines ∧
    (s.placeRead w).bus = s.bus ∧ (s.placeRead w).storeBanks = s.storeBanks ∧
    (s.placeRead w).pointBanks = s.pointBanks ∧ (s.placeRead w).cashbox = s.cashbox ∧
    (s.placeRead w).ports = s.ports ∧ (s.placeRead w).pointSetup = s.pointSetup ∧ (s.placeRead w).system = s.system ∧
    (s.placeRead w).setupBlock = s.setupBlock ∧ (s.placeRead w).unsaved = s.unsaved ∧
    (s.placeRead w).setupFault = s.setupFault ∧ (s.placeRead w).countMemory = s.countMemory ∧
    (s.placeRead w).countLost = s.countLost ∧ (s.placeRead w).causes = s.causes ∧
    (s.placeRead w).startUp = s.startUp ∧ (s.placeRead w).free = s.free := by
  unfold State.placeRead
  cases h : s.joinRead w with
  | none => simp
  | some t => exact State.joinRead_keeps h

@[simp] theorem State.placeVerify_keeps (s : State) (i : Station) :
    (s.placeVerify i).pending = s.pending ∧ (s.placeVerify i).time = s.time ∧ (s.placeVerify i).records = s.records ∧
    (s.placeVerify i).stores = s.stores ∧ (s.placeVerify i).points = s.points ∧
    (s.placeVerify i).engines = s.engines ∧ (s.placeVerify i).bus = s.bus ∧
    (s.placeVerify i).storeBanks = s.storeBanks ∧ (s.placeVerify i).pointBanks = s.pointBanks ∧
    (s.placeVerify i).cashbox = s.cashbox ∧ (s.placeVerify i).ports = s.ports ∧
    (s.placeVerify i).pointSetup = s.pointSetup ∧ (s.placeVerify i).system = s.system ∧
    (s.placeVerify i).setupBlock = s.setupBlock ∧ (s.placeVerify i).unsaved = s.unsaved ∧
    (s.placeVerify i).setupFault = s.setupFault ∧ (s.placeVerify i).countMemory = s.countMemory ∧
    (s.placeVerify i).countLost = s.countLost ∧ (s.placeVerify i).causes = s.causes ∧
    (s.placeVerify i).startUp = s.startUp ∧ (s.placeVerify i).free = s.free := by
  unfold State.placeVerify
  simp

@[simp] theorem State.placeEngineRead_keeps (s : State) (i : Station) (b : Bool) :
    (s.placeEngineRead i b).pending = s.pending ∧ (s.placeEngineRead i b).time = s.time ∧
    (s.placeEngineRead i b).records = s.records ∧ (s.placeEngineRead i b).stores = s.stores ∧
    (s.placeEngineRead i b).points = s.points ∧ (s.placeEngineRead i b).engines = s.engines ∧
    (s.placeEngineRead i b).bus = s.bus ∧ (s.placeEngineRead i b).storeBanks = s.storeBanks ∧
    (s.placeEngineRead i b).pointBanks = s.pointBanks ∧ (s.placeEngineRead i b).cashbox = s.cashbox ∧
    (s.placeEngineRead i b).ports = s.ports ∧ (s.placeEngineRead i b).pointSetup = s.pointSetup ∧
    (s.placeEngineRead i b).system = s.system ∧ (s.placeEngineRead i b).setupBlock = s.setupBlock ∧
    (s.placeEngineRead i b).unsaved = s.unsaved ∧ (s.placeEngineRead i b).setupFault = s.setupFault ∧
    (s.placeEngineRead i b).countMemory = s.countMemory ∧ (s.placeEngineRead i b).countLost = s.countLost ∧
    (s.placeEngineRead i b).causes = s.causes ∧ (s.placeEngineRead i b).startUp = s.startUp ∧
    (s.placeEngineRead i b).free = s.free := by
  unfold State.placeEngineRead
  simp

@[simp] theorem State.placeSettings_keeps (s : State) (i : Station) :
    (s.placeSettings i).pending = s.pending ∧ (s.placeSettings i).time = s.time ∧
    (s.placeSettings i).records = s.records ∧ (s.placeSettings i).stores = s.stores ∧
    (s.placeSettings i).points = s.points ∧ (s.placeSettings i).engines = s.engines ∧
    (s.placeSettings i).bus = s.bus ∧ (s.placeSettings i).storeBanks = s.storeBanks ∧
    (s.placeSettings i).pointBanks = s.pointBanks ∧ (s.placeSettings i).cashbox = s.cashbox ∧
    (s.placeSettings i).ports = s.ports ∧ (s.placeSettings i).pointSetup = s.pointSetup ∧
    (s.placeSettings i).system = s.system ∧ (s.placeSettings i).setupBlock = s.setupBlock ∧
    (s.placeSettings i).unsaved = s.unsaved ∧ (s.placeSettings i).setupFault = s.setupFault ∧
    (s.placeSettings i).countMemory = s.countMemory ∧ (s.placeSettings i).countLost = s.countLost ∧
    (s.placeSettings i).causes = s.causes ∧ (s.placeSettings i).startUp = s.startUp ∧
    (s.placeSettings i).free = s.free := by
  unfold State.placeSettings
  split <;> simp

@[simp] theorem State.settingsDue_keeps (s : State) (i : Station) (b : Bool) :
    (s.settingsDue i b).pending = s.pending ∧ (s.settingsDue i b).time = s.time ∧
    (s.settingsDue i b).records = s.records ∧ (s.settingsDue i b).points = s.points ∧
    (s.settingsDue i b).engines = s.engines ∧ (s.settingsDue i b).bus = s.bus ∧
    (s.settingsDue i b).storeBanks = s.storeBanks ∧ (s.settingsDue i b).pointBanks = s.pointBanks ∧
    (s.settingsDue i b).cashbox = s.cashbox ∧ (s.settingsDue i b).ports = s.ports ∧
    (s.settingsDue i b).pointSetup = s.pointSetup ∧ (s.settingsDue i b).system = s.system ∧
    (s.settingsDue i b).setupBlock = s.setupBlock ∧ (s.settingsDue i b).unsaved = s.unsaved ∧
    (s.settingsDue i b).setupFault = s.setupFault ∧ (s.settingsDue i b).countMemory = s.countMemory ∧
    (s.settingsDue i b).countLost = s.countLost ∧ (s.settingsDue i b).causes = s.causes ∧
    (s.settingsDue i b).startUp = s.startUp ∧ (s.settingsDue i b).free = s.free := by
  unfold State.settingsDue
  simp

@[simp] theorem State.dropSettings_keeps (s : State) (i : Station) :
    (s.dropSettings i).pending = s.pending ∧ (s.dropSettings i).time = s.time ∧
    (s.dropSettings i).records = s.records ∧ (s.dropSettings i).stores = s.stores ∧
    (s.dropSettings i).points = s.points ∧ (s.dropSettings i).engines = s.engines ∧ (s.dropSettings i).bus = s.bus ∧
    (s.dropSettings i).storeBanks = s.storeBanks ∧ (s.dropSettings i).pointBanks = s.pointBanks ∧
    (s.dropSettings i).cashbox = s.cashbox ∧ (s.dropSettings i).ports = s.ports ∧
    (s.dropSettings i).pointSetup = s.pointSetup ∧ (s.dropSettings i).system = s.system ∧
    (s.dropSettings i).setupBlock = s.setupBlock ∧ (s.dropSettings i).unsaved = s.unsaved ∧
    (s.dropSettings i).setupFault = s.setupFault ∧ (s.dropSettings i).countMemory = s.countMemory ∧
    (s.dropSettings i).countLost = s.countLost ∧ (s.dropSettings i).causes = s.causes ∧
    (s.dropSettings i).startUp = s.startUp ∧ (s.dropSettings i).free = s.free := by
  unfold State.dropSettings
  split <;> simp

@[simp] theorem State.unverify_keeps (s : State) (i : Station) :
    (s.unverify i).pending = s.pending ∧ (s.unverify i).time = s.time ∧ (s.unverify i).records = s.records ∧
    (s.unverify i).points = s.points ∧ (s.unverify i).engines = s.engines ∧ (s.unverify i).bus = s.bus ∧
    (s.unverify i).storeBanks = s.storeBanks ∧ (s.unverify i).pointBanks = s.pointBanks ∧
    (s.unverify i).cashbox = s.cashbox ∧ (s.unverify i).ports = s.ports ∧ (s.unverify i).pointSetup = s.pointSetup ∧
    (s.unverify i).system = s.system ∧ (s.unverify i).setupBlock = s.setupBlock ∧ (s.unverify i).unsaved = s.unsaved ∧
    (s.unverify i).setupFault = s.setupFault ∧ (s.unverify i).countMemory = s.countMemory ∧
    (s.unverify i).countLost = s.countLost ∧ (s.unverify i).causes = s.causes ∧ (s.unverify i).startUp = s.startUp ∧
    (s.unverify i).free = s.free := by
  unfold State.unverify
  dsimp only
  (repeat' split) <;> simp

@[simp] theorem State.serviced_keeps (s : State) (i : Station) :
    (s.serviced i).pending = s.pending ∧ (s.serviced i).time = s.time ∧ (s.serviced i).records = s.records ∧
    (s.serviced i).stores = s.stores ∧ (s.serviced i).points = s.points ∧ (s.serviced i).engines = s.engines ∧
    (s.serviced i).reconciler = s.reconciler ∧ (s.serviced i).storeBanks = s.storeBanks ∧
    (s.serviced i).pointBanks = s.pointBanks ∧ (s.serviced i).cashbox = s.cashbox ∧ (s.serviced i).ports = s.ports ∧
    (s.serviced i).pointSetup = s.pointSetup ∧ (s.serviced i).system = s.system ∧
    (s.serviced i).setupBlock = s.setupBlock ∧ (s.serviced i).unsaved = s.unsaved ∧
    (s.serviced i).setupFault = s.setupFault ∧ (s.serviced i).countMemory = s.countMemory ∧
    (s.serviced i).countLost = s.countLost ∧ (s.serviced i).causes = s.causes ∧ (s.serviced i).startUp = s.startUp ∧
    (s.serviced i).free = s.free := by
  unfold State.serviced
  dsimp only
  (repeat' split) <;> simp

@[simp] theorem State.dropHead_keeps (s : State) :
    (s.dropHead).pending = s.pending ∧ (s.dropHead).time = s.time ∧ (s.dropHead).records = s.records ∧
    (s.dropHead).stores = s.stores ∧ (s.dropHead).points = s.points ∧ (s.dropHead).engines = s.engines ∧
    (s.dropHead).storeBanks = s.storeBanks ∧ (s.dropHead).pointBanks = s.pointBanks ∧
    (s.dropHead).cashbox = s.cashbox ∧ (s.dropHead).ports = s.ports ∧ (s.dropHead).pointSetup = s.pointSetup ∧
    (s.dropHead).system = s.system ∧ (s.dropHead).setupBlock = s.setupBlock ∧ (s.dropHead).unsaved = s.unsaved ∧
    (s.dropHead).setupFault = s.setupFault ∧ (s.dropHead).countMemory = s.countMemory ∧
    (s.dropHead).countLost = s.countLost ∧ (s.dropHead).causes = s.causes ∧ (s.dropHead).startUp = s.startUp ∧
    (s.dropHead).free = s.free := by
  unfold State.dropHead
  (repeat' split) <;> simp

@[simp] theorem State.nextOp_keeps (s : State) :
    (s.nextOp).pending = s.pending ∧ (s.nextOp).time = s.time ∧ (s.nextOp).records = s.records ∧
    (s.nextOp).stores = s.stores ∧ (s.nextOp).points = s.points ∧ (s.nextOp).engines = s.engines ∧
    (s.nextOp).storeBanks = s.storeBanks ∧ (s.nextOp).pointBanks = s.pointBanks ∧ (s.nextOp).cashbox = s.cashbox ∧
    (s.nextOp).ports = s.ports ∧ (s.nextOp).pointSetup = s.pointSetup ∧ (s.nextOp).system = s.system ∧
    (s.nextOp).setupBlock = s.setupBlock ∧ (s.nextOp).unsaved = s.unsaved ∧ (s.nextOp).setupFault = s.setupFault ∧
    (s.nextOp).countMemory = s.countMemory ∧ (s.nextOp).countLost = s.countLost ∧ (s.nextOp).causes = s.causes ∧
    (s.nextOp).startUp = s.startUp ∧ (s.nextOp).free = s.free := by
  unfold State.nextOp
  (repeat' split) <;> simp

@[simp] theorem State.failHead_keeps (s : State) :
    (s.failHead).pending = s.pending ∧ (s.failHead).time = s.time ∧ (s.failHead).records = s.records ∧
    (s.failHead).stores = s.stores ∧ (s.failHead).points = s.points ∧ (s.failHead).engines = s.engines ∧
    (s.failHead).storeBanks = s.storeBanks ∧ (s.failHead).pointBanks = s.pointBanks ∧
    (s.failHead).cashbox = s.cashbox ∧ (s.failHead).ports = s.ports ∧ (s.failHead).pointSetup = s.pointSetup ∧
    (s.failHead).system = s.system ∧ (s.failHead).setupBlock = s.setupBlock ∧ (s.failHead).unsaved = s.unsaved ∧
    (s.failHead).setupFault = s.setupFault ∧ (s.failHead).countMemory = s.countMemory ∧
    (s.failHead).countLost = s.countLost ∧ (s.failHead).causes = s.causes ∧ (s.failHead).startUp = s.startUp ∧
    (s.failHead).free = s.free := by
  unfold State.failHead
  dsimp only
  (repeat' split) <;> simp

@[simp] theorem State.prune_keeps (s : State) :
    (s.prune).pending = s.pending ∧ (s.prune).time = s.time ∧ (s.prune).records = s.records ∧
    (s.prune).stores = s.stores ∧ (s.prune).points = s.points ∧ (s.prune).engines = s.engines ∧
    (s.prune).bus = s.bus ∧ (s.prune).storeBanks = s.storeBanks ∧ (s.prune).pointBanks = s.pointBanks ∧
    (s.prune).cashbox = s.cashbox ∧ (s.prune).ports = s.ports ∧ (s.prune).pointSetup = s.pointSetup ∧
    (s.prune).system = s.system ∧ (s.prune).setupBlock = s.setupBlock ∧ (s.prune).unsaved = s.unsaved ∧
    (s.prune).setupFault = s.setupFault ∧ (s.prune).countMemory = s.countMemory ∧ (s.prune).countLost = s.countLost ∧
    (s.prune).causes = s.causes ∧ (s.prune).startUp = s.startUp ∧ (s.prune).free = s.free := by
  unfold State.prune
  dsimp only
  simp

theorem State.placeReads_keep (ws : List Work) (s : State) :
    (ws.foldl State.placeRead s).pending = s.pending ∧ (ws.foldl State.placeRead s).time = s.time ∧
    (ws.foldl State.placeRead s).records = s.records ∧ (ws.foldl State.placeRead s).stores = s.stores ∧
    (ws.foldl State.placeRead s).points = s.points ∧ (ws.foldl State.placeRead s).engines = s.engines ∧
    (ws.foldl State.placeRead s).bus = s.bus ∧ (ws.foldl State.placeRead s).storeBanks = s.storeBanks ∧
    (ws.foldl State.placeRead s).pointBanks = s.pointBanks ∧ (ws.foldl State.placeRead s).cashbox = s.cashbox ∧
    (ws.foldl State.placeRead s).ports = s.ports ∧ (ws.foldl State.placeRead s).pointSetup = s.pointSetup ∧
    (ws.foldl State.placeRead s).system = s.system ∧ (ws.foldl State.placeRead s).setupBlock = s.setupBlock ∧
    (ws.foldl State.placeRead s).unsaved = s.unsaved ∧ (ws.foldl State.placeRead s).setupFault = s.setupFault ∧
    (ws.foldl State.placeRead s).countMemory = s.countMemory ∧ (ws.foldl State.placeRead s).countLost = s.countLost ∧
    (ws.foldl State.placeRead s).causes = s.causes ∧ (ws.foldl State.placeRead s).startUp = s.startUp ∧
    (ws.foldl State.placeRead s).free = s.free := by
  induction ws generalizing s with
  | nil => simp
  | cons w ws ih => simpa using ih (s.placeRead w)

@[simp] theorem State.ripen_keeps (s : State) (i : Station) :
    (s.ripen i).pending = s.pending ∧ (s.ripen i).time = s.time ∧ (s.ripen i).records = s.records ∧
    (s.ripen i).stores = s.stores ∧ (s.ripen i).points = s.points ∧ (s.ripen i).engines = s.engines ∧
    (s.ripen i).bus = s.bus ∧ (s.ripen i).storeBanks = s.storeBanks ∧ (s.ripen i).pointBanks = s.pointBanks ∧
    (s.ripen i).cashbox = s.cashbox ∧ (s.ripen i).ports = s.ports ∧ (s.ripen i).pointSetup = s.pointSetup ∧
    (s.ripen i).system = s.system ∧ (s.ripen i).setupBlock = s.setupBlock ∧ (s.ripen i).unsaved = s.unsaved ∧
    (s.ripen i).setupFault = s.setupFault ∧ (s.ripen i).countMemory = s.countMemory ∧
    (s.ripen i).countLost = s.countLost ∧ (s.ripen i).causes = s.causes ∧ (s.ripen i).startUp = s.startUp ∧
    (s.ripen i).free = s.free := by
  unfold State.ripen
  split
  · simp [State.placeReads_keep]
  · simp

end Sys2Proof.Machine
end

