-- ==== Sys2Proof/Laws/Intake.lean ====
section
/-! SUPPORT. What the operations of the intake units leave unchanged. -/

namespace Sys2Proof.Machine

@[simp] theorem State.send_keeps (s : State) (p : PointId) (m : AcceptorMessage) :
    (s.send p m).pending = s.pending ∧ (s.send p m).time = s.time ∧ (s.send p m).records = s.records ∧
    (s.send p m).stores = s.stores ∧ (s.send p m).engines = s.engines ∧ (s.send p m).bus = s.bus ∧
    (s.send p m).reconciler = s.reconciler ∧ (s.send p m).storeBanks = s.storeBanks ∧
    (s.send p m).pointBanks = s.pointBanks ∧ (s.send p m).cashbox = s.cashbox ∧ (s.send p m).ports = s.ports ∧
    (s.send p m).pointSetup = s.pointSetup ∧ (s.send p m).system = s.system ∧ (s.send p m).setupBlock = s.setupBlock ∧
    (s.send p m).unsaved = s.unsaved ∧ (s.send p m).setupFault = s.setupFault ∧
    (s.send p m).countMemory = s.countMemory ∧ (s.send p m).countLost = s.countLost ∧ (s.send p m).causes = s.causes ∧
    (s.send p m).startUp = s.startUp ∧ (s.send p m).free = s.free := by
  unfold State.send
  simp

@[simp] theorem State.sendMask_keeps (s : State) (p : PointId) :
    (s.sendMask p).pending = s.pending ∧ (s.sendMask p).time = s.time ∧ (s.sendMask p).records = s.records ∧
    (s.sendMask p).stores = s.stores ∧ (s.sendMask p).engines = s.engines ∧ (s.sendMask p).bus = s.bus ∧
    (s.sendMask p).reconciler = s.reconciler ∧ (s.sendMask p).storeBanks = s.storeBanks ∧
    (s.sendMask p).pointBanks = s.pointBanks ∧ (s.sendMask p).cashbox = s.cashbox ∧ (s.sendMask p).ports = s.ports ∧
    (s.sendMask p).pointSetup = s.pointSetup ∧ (s.sendMask p).system = s.system ∧
    (s.sendMask p).setupBlock = s.setupBlock ∧ (s.sendMask p).unsaved = s.unsaved ∧
    (s.sendMask p).setupFault = s.setupFault ∧ (s.sendMask p).countMemory = s.countMemory ∧
    (s.sendMask p).countLost = s.countLost ∧ (s.sendMask p).causes = s.causes ∧ (s.sendMask p).startUp = s.startUp ∧
    (s.sendMask p).free = s.free := by
  unfold State.sendMask
  simp

@[simp] theorem State.refreshMask_keeps (s : State) (p : PointId) :
    (s.refreshMask p).pending = s.pending ∧ (s.refreshMask p).time = s.time ∧ (s.refreshMask p).records = s.records ∧
    (s.refreshMask p).stores = s.stores ∧ (s.refreshMask p).engines = s.engines ∧ (s.refreshMask p).bus = s.bus ∧
    (s.refreshMask p).reconciler = s.reconciler ∧ (s.refreshMask p).storeBanks = s.storeBanks ∧
    (s.refreshMask p).pointBanks = s.pointBanks ∧ (s.refreshMask p).cashbox = s.cashbox ∧
    (s.refreshMask p).ports = s.ports ∧ (s.refreshMask p).pointSetup = s.pointSetup ∧
    (s.refreshMask p).system = s.system ∧ (s.refreshMask p).setupBlock = s.setupBlock ∧
    (s.refreshMask p).unsaved = s.unsaved ∧ (s.refreshMask p).setupFault = s.setupFault ∧
    (s.refreshMask p).countMemory = s.countMemory ∧ (s.refreshMask p).countLost = s.countLost ∧
    (s.refreshMask p).causes = s.causes ∧ (s.refreshMask p).startUp = s.startUp ∧ (s.refreshMask p).free = s.free := by
  unfold State.refreshMask
  dsimp only
  (repeat' split) <;> simp

@[simp] theorem State.refreshMasks_keeps (s : State) :
    (s.refreshMasks).pending = s.pending ∧ (s.refreshMasks).time = s.time ∧ (s.refreshMasks).records = s.records ∧
    (s.refreshMasks).stores = s.stores ∧ (s.refreshMasks).engines = s.engines ∧ (s.refreshMasks).bus = s.bus ∧
    (s.refreshMasks).reconciler = s.reconciler ∧ (s.refreshMasks).storeBanks = s.storeBanks ∧
    (s.refreshMasks).pointBanks = s.pointBanks ∧ (s.refreshMasks).cashbox = s.cashbox ∧
    (s.refreshMasks).ports = s.ports ∧ (s.refreshMasks).pointSetup = s.pointSetup ∧
    (s.refreshMasks).system = s.system ∧ (s.refreshMasks).setupBlock = s.setupBlock ∧
    (s.refreshMasks).unsaved = s.unsaved ∧ (s.refreshMasks).setupFault = s.setupFault ∧
    (s.refreshMasks).countMemory = s.countMemory ∧ (s.refreshMasks).countLost = s.countLost ∧
    (s.refreshMasks).causes = s.causes ∧ (s.refreshMasks).startUp = s.startUp ∧ (s.refreshMasks).free = s.free := by
  unfold State.refreshMasks
  simp

@[simp] theorem State.creditRecord_keeps (s : State) (i : Slot) (d : Nat) :
    (s.creditRecord i d).pending = s.pending ∧ (s.creditRecord i d).time = s.time ∧
    (s.creditRecord i d).points = s.points ∧ (s.creditRecord i d).engines = s.engines ∧
    (s.creditRecord i d).bus = s.bus ∧ (s.creditRecord i d).reconciler = s.reconciler ∧
    (s.creditRecord i d).storeBanks = s.storeBanks ∧ (s.creditRecord i d).pointBanks = s.pointBanks ∧
    (s.creditRecord i d).cashbox = s.cashbox ∧ (s.creditRecord i d).ports = s.ports ∧
    (s.creditRecord i d).pointSetup = s.pointSetup ∧ (s.creditRecord i d).system = s.system ∧
    (s.creditRecord i d).setupBlock = s.setupBlock ∧ (s.creditRecord i d).unsaved = s.unsaved ∧
    (s.creditRecord i d).setupFault = s.setupFault ∧ (s.creditRecord i d).countMemory = s.countMemory ∧
    (s.creditRecord i d).countLost = s.countLost ∧ (s.creditRecord i d).causes = s.causes ∧
    (s.creditRecord i d).startUp = s.startUp ∧ (s.creditRecord i d).free = s.free := by
  unfold State.creditRecord
  dsimp only
  (repeat' split) <;> simp

@[simp] theorem State.creditUnclaimed_keeps (s : State) (p : PointId) (d : Nat) :
    (s.creditUnclaimed p d).pending = s.pending ∧ (s.creditUnclaimed p d).time = s.time ∧
    (s.creditUnclaimed p d).records = s.records ∧ (s.creditUnclaimed p d).stores = s.stores ∧
    (s.creditUnclaimed p d).engines = s.engines ∧ (s.creditUnclaimed p d).bus = s.bus ∧
    (s.creditUnclaimed p d).reconciler = s.reconciler ∧ (s.creditUnclaimed p d).storeBanks = s.storeBanks ∧
    (s.creditUnclaimed p d).pointBanks = s.pointBanks ∧ (s.creditUnclaimed p d).cashbox = s.cashbox ∧
    (s.creditUnclaimed p d).pointSetup = s.pointSetup ∧ (s.creditUnclaimed p d).system = s.system ∧
    (s.creditUnclaimed p d).setupBlock = s.setupBlock ∧ (s.creditUnclaimed p d).unsaved = s.unsaved ∧
    (s.creditUnclaimed p d).setupFault = s.setupFault ∧ (s.creditUnclaimed p d).countMemory = s.countMemory ∧
    (s.creditUnclaimed p d).countLost = s.countLost ∧ (s.creditUnclaimed p d).causes = s.causes ∧
    (s.creditUnclaimed p d).startUp = s.startUp ∧ (s.creditUnclaimed p d).free = s.free := by
  unfold State.creditUnclaimed
  dsimp only
  (repeat' split) <;> simp

@[simp] theorem State.dropDone_keeps (s : State) (p : PointId) :
    (s.dropDone p).pending = s.pending ∧ (s.dropDone p).time = s.time ∧ (s.dropDone p).records = s.records ∧
    (s.dropDone p).stores = s.stores ∧ (s.dropDone p).engines = s.engines ∧ (s.dropDone p).bus = s.bus ∧
    (s.dropDone p).reconciler = s.reconciler ∧ (s.dropDone p).storeBanks = s.storeBanks ∧
    (s.dropDone p).pointBanks = s.pointBanks ∧ (s.dropDone p).cashbox = s.cashbox ∧ (s.dropDone p).ports = s.ports ∧
    (s.dropDone p).pointSetup = s.pointSetup ∧ (s.dropDone p).system = s.system ∧
    (s.dropDone p).setupBlock = s.setupBlock ∧ (s.dropDone p).unsaved = s.unsaved ∧
    (s.dropDone p).setupFault = s.setupFault ∧ (s.dropDone p).countMemory = s.countMemory ∧
    (s.dropDone p).countLost = s.countLost ∧ (s.dropDone p).causes = s.causes ∧ (s.dropDone p).startUp = s.startUp ∧
    (s.dropDone p).free = s.free := by
  unfold State.dropDone
  simp

theorem State.creditPoint_keeps (s t : State) (p : PointId) (d : Nat) (h : s.creditPoint p d = some t) :
    t.pending = s.pending ∧ t.time = s.time ∧ t.engines = s.engines ∧ t.bus = s.bus ∧ t.reconciler = s.reconciler ∧
    t.storeBanks = s.storeBanks ∧ t.pointBanks = s.pointBanks ∧ t.cashbox = s.cashbox ∧ t.pointSetup = s.pointSetup ∧
    t.system = s.system ∧ t.setupBlock = s.setupBlock ∧ t.unsaved = s.unsaved ∧ t.setupFault = s.setupFault ∧
    t.countMemory = s.countMemory ∧ t.countLost = s.countLost ∧ t.causes = s.causes ∧ t.startUp = s.startUp ∧
    t.free = s.free := by
  unfold State.creditPoint at h
  (repeat' split at h) <;> first | (cases h; simp) | (simp at h)

@[simp] theorem State.applyLoop_keeps (s : State) (p : PointId) (n : Nat) :
    (s.applyLoop p n).pending = s.pending ∧ (s.applyLoop p n).time = s.time ∧ (s.applyLoop p n).engines = s.engines ∧
    (s.applyLoop p n).bus = s.bus ∧ (s.applyLoop p n).reconciler = s.reconciler ∧
    (s.applyLoop p n).storeBanks = s.storeBanks ∧ (s.applyLoop p n).pointBanks = s.pointBanks ∧
    (s.applyLoop p n).cashbox = s.cashbox ∧ (s.applyLoop p n).pointSetup = s.pointSetup ∧
    (s.applyLoop p n).system = s.system ∧ (s.applyLoop p n).setupBlock = s.setupBlock ∧
    (s.applyLoop p n).unsaved = s.unsaved ∧ (s.applyLoop p n).setupFault = s.setupFault ∧
    (s.applyLoop p n).countMemory = s.countMemory ∧ (s.applyLoop p n).countLost = s.countLost ∧
    (s.applyLoop p n).causes = s.causes ∧ (s.applyLoop p n).startUp = s.startUp ∧ (s.applyLoop p n).free = s.free := by
  induction n generalizing s with
  | zero => simp [State.applyLoop]
  | succ n ih =>
    unfold State.applyLoop
    split
    · simp
    · split
      · simp
      · rename_i t h
        have k := State.creditPoint_keeps s t p _ h
        simp [ih, k]

@[simp] theorem State.applyCredits_keeps (s : State) (p : PointId) :
    (s.applyCredits p).pending = s.pending ∧ (s.applyCredits p).time = s.time ∧
    (s.applyCredits p).engines = s.engines ∧ (s.applyCredits p).bus = s.bus ∧
    (s.applyCredits p).reconciler = s.reconciler ∧ (s.applyCredits p).storeBanks = s.storeBanks ∧
    (s.applyCredits p).pointBanks = s.pointBanks ∧ (s.applyCredits p).cashbox = s.cashbox ∧
    (s.applyCredits p).pointSetup = s.pointSetup ∧ (s.applyCredits p).system = s.system ∧
    (s.applyCredits p).setupBlock = s.setupBlock ∧ (s.applyCredits p).unsaved = s.unsaved ∧
    (s.applyCredits p).setupFault = s.setupFault ∧ (s.applyCredits p).countMemory = s.countMemory ∧
    (s.applyCredits p).countLost = s.countLost ∧ (s.applyCredits p).causes = s.causes ∧
    (s.applyCredits p).startUp = s.startUp ∧ (s.applyCredits p).free = s.free := by
  unfold State.applyCredits
  simp

@[simp] theorem State.routed_keeps (s : State) (p : PointId) (item : Byte) (r : Route) :
    (s.routed p item r).pending = s.pending ∧ (s.routed p item r).time = s.time ∧
    (s.routed p item r).records = s.records ∧ (s.routed p item r).stores = s.stores ∧
    (s.routed p item r).engines = s.engines ∧ (s.routed p item r).bus = s.bus ∧
    (s.routed p item r).reconciler = s.reconciler ∧ (s.routed p item r).storeBanks = s.storeBanks ∧
    (s.routed p item r).pointBanks = s.pointBanks ∧ (s.routed p item r).cashbox = s.cashbox ∧
    (s.routed p item r).ports = s.ports ∧ (s.routed p item r).pointSetup = s.pointSetup ∧
    (s.routed p item r).system = s.system ∧ (s.routed p item r).setupBlock = s.setupBlock ∧
    (s.routed p item r).unsaved = s.unsaved ∧ (s.routed p item r).setupFault = s.setupFault ∧
    (s.routed p item r).countMemory = s.countMemory ∧ (s.routed p item r).countLost = s.countLost ∧
    (s.routed p item r).causes = s.causes ∧ (s.routed p item r).startUp = s.startUp ∧
    (s.routed p item r).free = s.free := by
  unfold State.routed
  (try dsimp only)
  simp

@[simp] theorem State.releaseOwed_keeps (s : State) (p : PointId) (l : List (Byte × Nat)) :
    (s.releaseOwed p l).pending = s.pending ∧ (s.releaseOwed p l).time = s.time ∧
    (s.releaseOwed p l).records = s.records ∧ (s.releaseOwed p l).stores = s.stores ∧
    (s.releaseOwed p l).engines = s.engines ∧ (s.releaseOwed p l).bus = s.bus ∧
    (s.releaseOwed p l).reconciler = s.reconciler ∧ (s.releaseOwed p l).storeBanks = s.storeBanks ∧
    (s.releaseOwed p l).pointBanks = s.pointBanks ∧ (s.releaseOwed p l).pointSetup = s.pointSetup ∧
    (s.releaseOwed p l).system = s.system ∧ (s.releaseOwed p l).setupBlock = s.setupBlock ∧
    (s.releaseOwed p l).unsaved = s.unsaved ∧ (s.releaseOwed p l).setupFault = s.setupFault ∧
    (s.releaseOwed p l).countLost = s.countLost ∧ (s.releaseOwed p l).causes = s.causes ∧
    (s.releaseOwed p l).startUp = s.startUp ∧ (s.releaseOwed p l).free = s.free := by
  induction l generalizing s with
  | nil => simp [State.releaseOwed]
  | cons x l ih => obtain ⟨item, d⟩ := x; simp [State.releaseOwed, ih]

@[simp] theorem State.routeNext_keeps (s : State) (p : PointId) :
    (s.routeNext p).pending = s.pending ∧ (s.routeNext p).time = s.time ∧ (s.routeNext p).records = s.records ∧
    (s.routeNext p).stores = s.stores ∧ (s.routeNext p).engines = s.engines ∧
    (s.routeNext p).reconciler = s.reconciler ∧ (s.routeNext p).storeBanks = s.storeBanks ∧
    (s.routeNext p).pointBanks = s.pointBanks ∧ (s.routeNext p).pointSetup = s.pointSetup ∧
    (s.routeNext p).system = s.system ∧ (s.routeNext p).setupBlock = s.setupBlock ∧
    (s.routeNext p).unsaved = s.unsaved ∧ (s.routeNext p).setupFault = s.setupFault ∧
    (s.routeNext p).countLost = s.countLost ∧ (s.routeNext p).causes = s.causes ∧
    (s.routeNext p).startUp = s.startUp ∧ (s.routeNext p).free = s.free := by
  unfold State.routeNext
  dsimp only
  (repeat' split) <;> simp

@[simp] theorem State.takeIn_keeps (s : State) (p : PointId) (item : Byte) (d : Nat) :
    (s.takeIn p item d).pending = s.pending ∧ (s.takeIn p item d).time = s.time ∧
    (s.takeIn p item d).engines = s.engines ∧ (s.takeIn p item d).bus = s.bus ∧
    (s.takeIn p item d).reconciler = s.reconciler ∧ (s.takeIn p item d).storeBanks = s.storeBanks ∧
    (s.takeIn p item d).cashbox = s.cashbox ∧ (s.takeIn p item d).pointSetup = s.pointSetup ∧
    (s.takeIn p item d).system = s.system ∧ (s.takeIn p item d).setupBlock = s.setupBlock ∧
    (s.takeIn p item d).unsaved = s.unsaved ∧ (s.takeIn p item d).setupFault = s.setupFault ∧
    (s.takeIn p item d).countMemory = s.countMemory ∧ (s.takeIn p item d).countLost = s.countLost ∧
    (s.takeIn p item d).causes = s.causes ∧ (s.takeIn p item d).startUp = s.startUp ∧
    (s.takeIn p item d).free = s.free := by
  unfold State.takeIn
  (repeat' split) <;> simp

@[simp] theorem State.routeToBox_keeps (s : State) (p : PointId) (c : Credit) :
    (s.routeToBox p c).pending = s.pending ∧ (s.routeToBox p c).time = s.time ∧
    (s.routeToBox p c).records = s.records ∧ (s.routeToBox p c).stores = s.stores ∧
    (s.routeToBox p c).engines = s.engines ∧ (s.routeToBox p c).bus = s.bus ∧
    (s.routeToBox p c).reconciler = s.reconciler ∧ (s.routeToBox p c).storeBanks = s.storeBanks ∧
    (s.routeToBox p c).pointBanks = s.pointBanks ∧ (s.routeToBox p c).pointSetup = s.pointSetup ∧
    (s.routeToBox p c).system = s.system ∧ (s.routeToBox p c).setupBlock = s.setupBlock ∧
    (s.routeToBox p c).unsaved = s.unsaved ∧ (s.routeToBox p c).setupFault = s.setupFault ∧
    (s.routeToBox p c).countLost = s.countLost ∧ (s.routeToBox p c).causes = s.causes ∧
    (s.routeToBox p c).startUp = s.startUp ∧ (s.routeToBox p c).free = s.free := by
  unfold State.routeToBox
  simp

@[simp] theorem State.routeToStore_keeps (s : State) (p : PointId) (c : Credit) (i : Station) :
    (s.routeToStore p c i).pending = s.pending ∧ (s.routeToStore p c i).time = s.time ∧
    (s.routeToStore p c i).records = s.records ∧ (s.routeToStore p c i).engines = s.engines ∧
    (s.routeToStore p c i).bus = s.bus ∧ (s.routeToStore p c i).reconciler = s.reconciler ∧
    (s.routeToStore p c i).storeBanks = s.storeBanks ∧ (s.routeToStore p c i).pointBanks = s.pointBanks ∧
    (s.routeToStore p c i).cashbox = s.cashbox ∧ (s.routeToStore p c i).pointSetup = s.pointSetup ∧
    (s.routeToStore p c i).system = s.system ∧ (s.routeToStore p c i).setupBlock = s.setupBlock ∧
    (s.routeToStore p c i).unsaved = s.unsaved ∧ (s.routeToStore p c i).setupFault = s.setupFault ∧
    (s.routeToStore p c i).countLost = s.countLost ∧ (s.routeToStore p c i).causes = s.causes ∧
    (s.routeToStore p c i).startUp = s.startUp ∧ (s.routeToStore p c i).free = s.free := by
  unfold State.routeToStore
  (try dsimp only)
  simp

@[simp] theorem State.startLine_keeps (s : State) (p : PointId) :
    (s.startLine p).pending = s.pending ∧ (s.startLine p).time = s.time ∧ (s.startLine p).records = s.records ∧
    (s.startLine p).stores = s.stores ∧ (s.startLine p).engines = s.engines ∧ (s.startLine p).bus = s.bus ∧
    (s.startLine p).reconciler = s.reconciler ∧ (s.startLine p).storeBanks = s.storeBanks ∧
    (s.startLine p).pointBanks = s.pointBanks ∧ (s.startLine p).cashbox = s.cashbox ∧
    (s.startLine p).ports = s.ports ∧ (s.startLine p).pointSetup = s.pointSetup ∧ (s.startLine p).system = s.system ∧
    (s.startLine p).setupBlock = s.setupBlock ∧ (s.startLine p).unsaved = s.unsaved ∧
    (s.startLine p).setupFault = s.setupFault ∧ (s.startLine p).countMemory = s.countMemory ∧
    (s.startLine p).countLost = s.countLost ∧ (s.startLine p).causes = s.causes ∧
    (s.startLine p).startUp = s.startUp ∧ (s.startLine p).free = s.free := by
  unfold State.startLine
  simp

@[simp] theorem State.loseLine_keeps (s : State) (p : PointId) (n : Nat) :
    (s.loseLine p n).pending = s.pending ∧ (s.loseLine p n).time = s.time ∧ (s.loseLine p n).records = s.records ∧
    (s.loseLine p n).stores = s.stores ∧ (s.loseLine p n).engines = s.engines ∧
    (s.loseLine p n).reconciler = s.reconciler ∧ (s.loseLine p n).storeBanks = s.storeBanks ∧
    (s.loseLine p n).cashbox = s.cashbox ∧ (s.loseLine p n).pointSetup = s.pointSetup ∧
    (s.loseLine p n).system = s.system ∧ (s.loseLine p n).setupBlock = s.setupBlock ∧
    (s.loseLine p n).unsaved = s.unsaved ∧ (s.loseLine p n).setupFault = s.setupFault ∧
    (s.loseLine p n).countMemory = s.countMemory ∧ (s.loseLine p n).countLost = s.countLost ∧
    (s.loseLine p n).causes = s.causes ∧ (s.loseLine p n).startUp = s.startUp ∧ (s.loseLine p n).free = s.free := by
  unfold State.loseLine
  dsimp only
  (repeat' split) <;> simp

@[simp] theorem State.heard_keeps (s : State) (p : PointId) :
    (s.heard p).pending = s.pending ∧ (s.heard p).time = s.time ∧ (s.heard p).records = s.records ∧
    (s.heard p).stores = s.stores ∧ (s.heard p).engines = s.engines ∧ (s.heard p).bus = s.bus ∧
    (s.heard p).reconciler = s.reconciler ∧ (s.heard p).storeBanks = s.storeBanks ∧
    (s.heard p).pointBanks = s.pointBanks ∧ (s.heard p).cashbox = s.cashbox ∧ (s.heard p).ports = s.ports ∧
    (s.heard p).pointSetup = s.pointSetup ∧ (s.heard p).system = s.system ∧ (s.heard p).setupBlock = s.setupBlock ∧
    (s.heard p).unsaved = s.unsaved ∧ (s.heard p).setupFault = s.setupFault ∧
    (s.heard p).countMemory = s.countMemory ∧ (s.heard p).countLost = s.countLost ∧ (s.heard p).causes = s.causes ∧
    (s.heard p).startUp = s.startUp ∧ (s.heard p).free = s.free := by
  unfold State.heard
  simp

end Sys2Proof.Machine
end

