-- ==== Sys2Proof/Laws/Engines.lean ====
section
/-! SUPPORT. What the operations of the payout engines leave unchanged. -/

namespace Sys2Proof.Machine

@[simp] theorem State.requestStore_keeps (s : State) (e : EngineId) (i : Station) :
    (s.requestStore e i).2.pending = s.pending ∧
    (s.requestStore e i).2.time = s.time ∧
    (s.requestStore e i).2.records = s.records ∧
    (s.requestStore e i).2.points = s.points ∧
    (s.requestStore e i).2.engines = s.engines ∧
    (s.requestStore e i).2.bus = s.bus ∧
    (s.requestStore e i).2.reconciler = s.reconciler ∧
    (s.requestStore e i).2.storeBanks = s.storeBanks ∧
    (s.requestStore e i).2.pointBanks = s.pointBanks ∧
    (s.requestStore e i).2.cashbox = s.cashbox ∧
    (s.requestStore e i).2.ports = s.ports ∧
    (s.requestStore e i).2.pointSetup = s.pointSetup ∧
    (s.requestStore e i).2.system = s.system ∧
    (s.requestStore e i).2.setupBlock = s.setupBlock ∧
    (s.requestStore e i).2.unsaved = s.unsaved ∧
    (s.requestStore e i).2.setupFault = s.setupFault ∧
    (s.requestStore e i).2.countMemory = s.countMemory ∧
    (s.requestStore e i).2.countLost = s.countLost ∧
    (s.requestStore e i).2.causes = s.causes ∧
    (s.requestStore e i).2.startUp = s.startUp ∧
    (s.requestStore e i).2.free = s.free := by
  unfold State.requestStore
  (try dsimp only)
  (repeat' split) <;> simp

@[simp] theorem State.startDivert_keeps (s : State) (e : EngineId) :
    (s.startDivert e).pending = s.pending ∧ (s.startDivert e).time = s.time ∧ (s.startDivert e).records = s.records ∧
    (s.startDivert e).stores = s.stores ∧ (s.startDivert e).points = s.points ∧
    (s.startDivert e).reconciler = s.reconciler ∧ (s.startDivert e).storeBanks = s.storeBanks ∧
    (s.startDivert e).pointBanks = s.pointBanks ∧ (s.startDivert e).cashbox = s.cashbox ∧
    (s.startDivert e).ports = s.ports ∧ (s.startDivert e).pointSetup = s.pointSetup ∧
    (s.startDivert e).system = s.system ∧ (s.startDivert e).setupBlock = s.setupBlock ∧
    (s.startDivert e).unsaved = s.unsaved ∧ (s.startDivert e).setupFault = s.setupFault ∧
    (s.startDivert e).countMemory = s.countMemory ∧ (s.startDivert e).countLost = s.countLost ∧
    (s.startDivert e).causes = s.causes ∧ (s.startDivert e).startUp = s.startUp ∧ (s.startDivert e).free = s.free := by
  unfold State.startDivert
  simp

@[simp] theorem State.dropEntry_keeps (s : State) (e : EngineId) (i : Station) :
    (s.dropEntry e i).pending = s.pending ∧ (s.dropEntry e i).time = s.time ∧ (s.dropEntry e i).points = s.points ∧
    (s.dropEntry e i).bus = s.bus ∧ (s.dropEntry e i).reconciler = s.reconciler ∧
    (s.dropEntry e i).storeBanks = s.storeBanks ∧ (s.dropEntry e i).pointBanks = s.pointBanks ∧
    (s.dropEntry e i).cashbox = s.cashbox ∧ (s.dropEntry e i).ports = s.ports ∧
    (s.dropEntry e i).pointSetup = s.pointSetup ∧ (s.dropEntry e i).system = s.system ∧
    (s.dropEntry e i).setupBlock = s.setupBlock ∧ (s.dropEntry e i).unsaved = s.unsaved ∧
    (s.dropEntry e i).setupFault = s.setupFault ∧ (s.dropEntry e i).countMemory = s.countMemory ∧
    (s.dropEntry e i).countLost = s.countLost ∧ (s.dropEntry e i).causes = s.causes ∧
    (s.dropEntry e i).startUp = s.startUp ∧ (s.dropEntry e i).free = s.free := by
  unfold State.dropEntry
  (try dsimp only)
  (repeat' split) <;> simp

@[simp] theorem State.closeRecord_keeps (s : State) (e : EngineId) :
    (s.closeRecord e).pending = s.pending ∧ (s.closeRecord e).time = s.time ∧ (s.closeRecord e).points = s.points ∧
    (s.closeRecord e).engines = s.engines ∧ (s.closeRecord e).bus = s.bus ∧
    (s.closeRecord e).reconciler = s.reconciler ∧ (s.closeRecord e).storeBanks = s.storeBanks ∧
    (s.closeRecord e).pointBanks = s.pointBanks ∧ (s.closeRecord e).cashbox = s.cashbox ∧
    (s.closeRecord e).ports = s.ports ∧ (s.closeRecord e).pointSetup = s.pointSetup ∧
    (s.closeRecord e).system = s.system ∧ (s.closeRecord e).setupBlock = s.setupBlock ∧
    (s.closeRecord e).unsaved = s.unsaved ∧ (s.closeRecord e).setupFault = s.setupFault ∧
    (s.closeRecord e).countMemory = s.countMemory ∧ (s.closeRecord e).countLost = s.countLost ∧
    (s.closeRecord e).causes = s.causes ∧ (s.closeRecord e).startUp = s.startUp ∧ (s.closeRecord e).free = s.free := by
  unfold State.closeRecord
  (repeat' split) <;> simp

@[simp] theorem State.retireEngine_keeps (s : State) (p : PointId) :
    (s.retireEngine p).pending = s.pending ∧ (s.retireEngine p).time = s.time ∧ (s.retireEngine p).bus = s.bus ∧
    (s.retireEngine p).reconciler = s.reconciler ∧ (s.retireEngine p).storeBanks = s.storeBanks ∧
    (s.retireEngine p).pointBanks = s.pointBanks ∧ (s.retireEngine p).cashbox = s.cashbox ∧
    (s.retireEngine p).pointSetup = s.pointSetup ∧ (s.retireEngine p).system = s.system ∧
    (s.retireEngine p).setupBlock = s.setupBlock ∧ (s.retireEngine p).unsaved = s.unsaved ∧
    (s.retireEngine p).setupFault = s.setupFault ∧ (s.retireEngine p).countMemory = s.countMemory ∧
    (s.retireEngine p).countLost = s.countLost ∧ (s.retireEngine p).causes = s.causes ∧
    (s.retireEngine p).startUp = s.startUp ∧ (s.retireEngine p).free = s.free := by
  unfold State.retireEngine
  simp

@[simp] theorem State.endPayoutFree_keeps (s : State) (p : PointId) :
    (s.endPayoutFree p).pending = s.pending ∧ (s.endPayoutFree p).time = s.time ∧ (s.endPayoutFree p).bus = s.bus ∧
    (s.endPayoutFree p).reconciler = s.reconciler ∧ (s.endPayoutFree p).storeBanks = s.storeBanks ∧
    (s.endPayoutFree p).pointBanks = s.pointBanks ∧ (s.endPayoutFree p).cashbox = s.cashbox ∧
    (s.endPayoutFree p).pointSetup = s.pointSetup ∧ (s.endPayoutFree p).system = s.system ∧
    (s.endPayoutFree p).setupBlock = s.setupBlock ∧ (s.endPayoutFree p).unsaved = s.unsaved ∧
    (s.endPayoutFree p).setupFault = s.setupFault ∧ (s.endPayoutFree p).countMemory = s.countMemory ∧
    (s.endPayoutFree p).countLost = s.countLost ∧ (s.endPayoutFree p).causes = s.causes ∧
    (s.endPayoutFree p).startUp = s.startUp ∧ (s.endPayoutFree p).free = s.free := by
  unfold State.endPayoutFree
  simp

@[simp] theorem State.finishRun_keeps (s : State) (o : RunOutcome) :
    (s.finishRun o).pending = s.pending ∧ (s.finishRun o).time = s.time ∧ (s.finishRun o).records = s.records ∧
    (s.finishRun o).stores = s.stores ∧ (s.finishRun o).points = s.points ∧ (s.finishRun o).bus = s.bus ∧
    (s.finishRun o).storeBanks = s.storeBanks ∧ (s.finishRun o).pointBanks = s.pointBanks ∧
    (s.finishRun o).cashbox = s.cashbox ∧ (s.finishRun o).pointSetup = s.pointSetup ∧
    (s.finishRun o).system = s.system ∧ (s.finishRun o).setupBlock = s.setupBlock ∧
    (s.finishRun o).unsaved = s.unsaved ∧ (s.finishRun o).setupFault = s.setupFault ∧
    (s.finishRun o).countMemory = s.countMemory ∧ (s.finishRun o).countLost = s.countLost ∧
    (s.finishRun o).causes = s.causes ∧ (s.finishRun o).startUp = s.startUp ∧ (s.finishRun o).free = s.free := by
  unfold State.finishRun
  (try dsimp only)
  (repeat' split) <;> simp

@[simp] theorem State.commitSubstitute_keeps (s : State) (i : Slot) (l : List Entry) :
    (s.commitSubstitute i l).pending = s.pending ∧ (s.commitSubstitute i l).time = s.time ∧
    (s.commitSubstitute i l).points = s.points ∧ (s.commitSubstitute i l).engines = s.engines ∧
    (s.commitSubstitute i l).bus = s.bus ∧ (s.commitSubstitute i l).reconciler = s.reconciler ∧
    (s.commitSubstitute i l).storeBanks = s.storeBanks ∧ (s.commitSubstitute i l).pointBanks = s.pointBanks ∧
    (s.commitSubstitute i l).cashbox = s.cashbox ∧ (s.commitSubstitute i l).ports = s.ports ∧
    (s.commitSubstitute i l).pointSetup = s.pointSetup ∧ (s.commitSubstitute i l).system = s.system ∧
    (s.commitSubstitute i l).setupBlock = s.setupBlock ∧ (s.commitSubstitute i l).unsaved = s.unsaved ∧
    (s.commitSubstitute i l).setupFault = s.setupFault ∧ (s.commitSubstitute i l).countMemory = s.countMemory ∧
    (s.commitSubstitute i l).countLost = s.countLost ∧ (s.commitSubstitute i l).causes = s.causes ∧
    (s.commitSubstitute i l).startUp = s.startUp ∧ (s.commitSubstitute i l).free = s.free := by
  unfold State.commitSubstitute
  (try dsimp only)
  simp

@[simp] theorem State.substitute_keeps (s : State) (p : PointId) :
    (s.substitute p).pending = s.pending ∧ (s.substitute p).time = s.time ∧ (s.substitute p).points = s.points ∧
    (s.substitute p).engines = s.engines ∧ (s.substitute p).bus = s.bus ∧ (s.substitute p).reconciler = s.reconciler ∧
    (s.substitute p).storeBanks = s.storeBanks ∧ (s.substitute p).pointBanks = s.pointBanks ∧
    (s.substitute p).cashbox = s.cashbox ∧ (s.substitute p).ports = s.ports ∧
    (s.substitute p).pointSetup = s.pointSetup ∧ (s.substitute p).system = s.system ∧
    (s.substitute p).setupBlock = s.setupBlock ∧ (s.substitute p).unsaved = s.unsaved ∧
    (s.substitute p).setupFault = s.setupFault ∧ (s.substitute p).countMemory = s.countMemory ∧
    (s.substitute p).countLost = s.countLost ∧ (s.substitute p).causes = s.causes ∧
    (s.substitute p).startUp = s.startUp ∧ (s.substitute p).free = s.free := by
  unfold State.substitute
  (try dsimp only)
  (repeat' split) <;> simp

@[simp] theorem State.walkFree_keeps (s : State) (p : PointId) (n : Nat) :
    (s.walkFree p n).pending = s.pending ∧ (s.walkFree p n).time = s.time ∧
    (s.walkFree p n).reconciler = s.reconciler ∧ (s.walkFree p n).storeBanks = s.storeBanks ∧
    (s.walkFree p n).pointBanks = s.pointBanks ∧ (s.walkFree p n).cashbox = s.cashbox ∧
    (s.walkFree p n).pointSetup = s.pointSetup ∧ (s.walkFree p n).system = s.system ∧
    (s.walkFree p n).setupBlock = s.setupBlock ∧ (s.walkFree p n).unsaved = s.unsaved ∧
    (s.walkFree p n).setupFault = s.setupFault ∧ (s.walkFree p n).countMemory = s.countMemory ∧
    (s.walkFree p n).countLost = s.countLost ∧ (s.walkFree p n).causes = s.causes ∧
    (s.walkFree p n).startUp = s.startUp ∧ (s.walkFree p n).free = s.free := by
  induction n generalizing s with
  | zero => simp [State.walkFree]
  | succ n ih =>
    unfold State.walkFree
    dsimp only
    split
    · simp
    · rename_i en _ _
      have k := State.requestStore_keeps (s.updEngine (pointEngine p)
        (fun x => { x with station := some en.station, repeats := 0, needs := none, grant := .none })) (pointEngine p)
        en.station
      simp only [State.updEngine_eq] at k ⊢
      split <;> rename_i t h <;> rw [h] at k <;> simp at k
      · simp [k]
      · simp [k]
      · split <;> simp [ih, k]

@[simp] theorem State.modeStep_keeps (s : State) (p : PointId) :
    (s.modeStep p).pending = s.pending ∧ (s.modeStep p).time = s.time ∧ (s.modeStep p).reconciler = s.reconciler ∧
    (s.modeStep p).storeBanks = s.storeBanks ∧ (s.modeStep p).pointBanks = s.pointBanks ∧
    (s.modeStep p).cashbox = s.cashbox ∧ (s.modeStep p).pointSetup = s.pointSetup ∧ (s.modeStep p).system = s.system ∧
    (s.modeStep p).setupBlock = s.setupBlock ∧ (s.modeStep p).unsaved = s.unsaved ∧
    (s.modeStep p).setupFault = s.setupFault ∧ (s.modeStep p).countMemory = s.countMemory ∧
    (s.modeStep p).countLost = s.countLost ∧ (s.modeStep p).causes = s.causes ∧ (s.modeStep p).startUp = s.startUp ∧
    (s.modeStep p).free = s.free := by
  unfold State.modeStep
  (try dsimp only)
  (repeat' split) <;> simp

@[simp] theorem State.entryRefused_keeps (s : State) (p : PointId) :
    (s.entryRefused p).pending = s.pending ∧ (s.entryRefused p).time = s.time ∧
    (s.entryRefused p).reconciler = s.reconciler ∧ (s.entryRefused p).storeBanks = s.storeBanks ∧
    (s.entryRefused p).pointBanks = s.pointBanks ∧ (s.entryRefused p).cashbox = s.cashbox ∧
    (s.entryRefused p).pointSetup = s.pointSetup ∧ (s.entryRefused p).system = s.system ∧
    (s.entryRefused p).setupBlock = s.setupBlock ∧ (s.entryRefused p).unsaved = s.unsaved ∧
    (s.entryRefused p).setupFault = s.setupFault ∧ (s.entryRefused p).countMemory = s.countMemory ∧
    (s.entryRefused p).countLost = s.countLost ∧ (s.entryRefused p).causes = s.causes ∧
    (s.entryRefused p).startUp = s.startUp ∧ (s.entryRefused p).free = s.free := by
  unfold State.entryRefused
  (try dsimp only)
  split <;> simp

/-- R80: an engine whose entry was cut to nothing walks on with the next, whatever its mode. -/
theorem State.entryRefused_of_cut {s : State} {p : PointId}
    (h : listHas (s.payList (pointEngine p)) (s.workStation (pointEngine p)) = false) :
    s.entryRefused p = s.walkFree p walkRounds := by
  simp only [State.workStation] at h
  simp [State.entryRefused, h]

/-- R119: an entry that is still there is released, its store excluded, and the mode applied. -/
theorem State.entryRefused_of_entry {s : State} {p : PointId}
    (h : listHas (s.payList (pointEngine p)) (s.workStation (pointEngine p)) = true) :
    s.entryRefused p = (s.dropEntry (pointEngine p) (s.workStation (pointEngine p))).modeStep p := by
  simp only [State.workStation] at h
  simp [State.entryRefused, State.workStation, h]

@[simp] theorem State.answerNotGrantable_keeps (s : State) (e : EngineId) :
    (s.answerNotGrantable e).pending = s.pending ∧ (s.answerNotGrantable e).time = s.time ∧
    (s.answerNotGrantable e).storeBanks = s.storeBanks ∧ (s.answerNotGrantable e).pointBanks = s.pointBanks ∧
    (s.answerNotGrantable e).cashbox = s.cashbox ∧ (s.answerNotGrantable e).pointSetup = s.pointSetup ∧
    (s.answerNotGrantable e).system = s.system ∧ (s.answerNotGrantable e).setupBlock = s.setupBlock ∧
    (s.answerNotGrantable e).unsaved = s.unsaved ∧ (s.answerNotGrantable e).setupFault = s.setupFault ∧
    (s.answerNotGrantable e).countMemory = s.countMemory ∧ (s.answerNotGrantable e).countLost = s.countLost ∧
    (s.answerNotGrantable e).causes = s.causes ∧ (s.answerNotGrantable e).startUp = s.startUp ∧
    (s.answerNotGrantable e).free = s.free := by
  unfold State.answerNotGrantable
  (try dsimp only)
  (repeat' split) <;> simp

theorem State.answerAllNot_keeps (l : List EngineId) (s : State) :
    let t := l.foldl (fun s w => s.answerNotGrantable w) s
    t.pending = s.pending ∧
    t.time = s.time ∧
    t.storeBanks = s.storeBanks ∧
    t.pointBanks = s.pointBanks ∧
    t.cashbox = s.cashbox ∧
    t.pointSetup = s.pointSetup ∧
    t.system = s.system ∧
    t.setupBlock = s.setupBlock ∧
    t.unsaved = s.unsaved ∧
    t.setupFault = s.setupFault ∧
    t.countMemory = s.countMemory ∧
    t.countLost = s.countLost ∧
    t.causes = s.causes ∧
    t.startUp = s.startUp ∧
    t.free = s.free := by
  induction l generalizing s with
  | nil => simp
  | cons e l ih =>
    have k := ih (s.answerNotGrantable e)
    simpa using k

@[simp] theorem State.releaseGrant_keeps (s : State) (e : EngineId) :
    (s.releaseGrant e).pending = s.pending ∧ (s.releaseGrant e).time = s.time ∧
    (s.releaseGrant e).storeBanks = s.storeBanks ∧ (s.releaseGrant e).pointBanks = s.pointBanks ∧
    (s.releaseGrant e).cashbox = s.cashbox ∧ (s.releaseGrant e).pointSetup = s.pointSetup ∧
    (s.releaseGrant e).system = s.system ∧ (s.releaseGrant e).setupBlock = s.setupBlock ∧
    (s.releaseGrant e).unsaved = s.unsaved ∧ (s.releaseGrant e).setupFault = s.setupFault ∧
    (s.releaseGrant e).countMemory = s.countMemory ∧ (s.releaseGrant e).countLost = s.countLost ∧
    (s.releaseGrant e).causes = s.causes ∧ (s.releaseGrant e).startUp = s.startUp ∧ (s.releaseGrant e).free = s.free := by
  unfold State.releaseGrant
  dsimp only
  split
  · simp
  · split
    · simp
    · split
      · split <;> simp
      · rename_i i _ _ _
        have k := State.answerAllNot_keeps
          ((s.updEngine e (fun x => { x with grant := .none, needs := none })).store i).waiting
          ((s.updEngine e (fun x => { x with grant := .none, needs := none })).setStore i
            { (s.updEngine e (fun x => { x with grant := .none, needs := none })).store i with
              holder := none, waiting := [], burst := 0 })
        simpa using k

@[simp] theorem State.leaveStore_keeps (s : State) (e : EngineId) :
    (s.leaveStore e).pending = s.pending ∧ (s.leaveStore e).time = s.time ∧
    (s.leaveStore e).storeBanks = s.storeBanks ∧ (s.leaveStore e).pointBanks = s.pointBanks ∧
    (s.leaveStore e).cashbox = s.cashbox ∧ (s.leaveStore e).pointSetup = s.pointSetup ∧
    (s.leaveStore e).system = s.system ∧ (s.leaveStore e).setupBlock = s.setupBlock ∧
    (s.leaveStore e).unsaved = s.unsaved ∧ (s.leaveStore e).setupFault = s.setupFault ∧
    (s.leaveStore e).countMemory = s.countMemory ∧ (s.leaveStore e).countLost = s.countLost ∧
    (s.leaveStore e).causes = s.causes ∧ (s.leaveStore e).startUp = s.startUp ∧ (s.leaveStore e).free = s.free := by
  unfold State.leaveStore
  (repeat' split) <;> simp

@[simp] theorem State.endPayout_keeps (s : State) (p : PointId) :
    (s.endPayout p).pending = s.pending ∧ (s.endPayout p).time = s.time ∧ (s.endPayout p).storeBanks = s.storeBanks ∧
    (s.endPayout p).pointBanks = s.pointBanks ∧ (s.endPayout p).cashbox = s.cashbox ∧
    (s.endPayout p).pointSetup = s.pointSetup ∧ (s.endPayout p).system = s.system ∧
    (s.endPayout p).setupBlock = s.setupBlock ∧ (s.endPayout p).unsaved = s.unsaved ∧
    (s.endPayout p).setupFault = s.setupFault ∧ (s.endPayout p).countMemory = s.countMemory ∧
    (s.endPayout p).countLost = s.countLost ∧ (s.endPayout p).causes = s.causes ∧
    (s.endPayout p).startUp = s.startUp ∧ (s.endPayout p).free = s.free := by
  unfold State.endPayout
  simp

@[simp] theorem State.endRun_keeps (s : State) (o : RunOutcome) :
    (s.endRun o).pending = s.pending ∧ (s.endRun o).time = s.time ∧ (s.endRun o).storeBanks = s.storeBanks ∧
    (s.endRun o).pointBanks = s.pointBanks ∧ (s.endRun o).cashbox = s.cashbox ∧
    (s.endRun o).pointSetup = s.pointSetup ∧ (s.endRun o).system = s.system ∧ (s.endRun o).setupBlock = s.setupBlock ∧
    (s.endRun o).unsaved = s.unsaved ∧ (s.endRun o).setupFault = s.setupFault ∧
    (s.endRun o).countMemory = s.countMemory ∧ (s.endRun o).countLost = s.countLost ∧ (s.endRun o).causes = s.causes ∧
    (s.endRun o).startUp = s.startUp ∧ (s.endRun o).free = s.free := by
  unfold State.endRun
  simp

@[simp] theorem State.requestRun_keeps (s : State) :
    (s.requestRun).pending = s.pending ∧ (s.requestRun).time = s.time ∧ (s.requestRun).storeBanks = s.storeBanks ∧
    (s.requestRun).pointBanks = s.pointBanks ∧ (s.requestRun).cashbox = s.cashbox ∧
    (s.requestRun).pointSetup = s.pointSetup ∧ (s.requestRun).system = s.system ∧
    (s.requestRun).setupBlock = s.setupBlock ∧ (s.requestRun).unsaved = s.unsaved ∧
    (s.requestRun).setupFault = s.setupFault ∧ (s.requestRun).countMemory = s.countMemory ∧
    (s.requestRun).countLost = s.countLost ∧ (s.requestRun).causes = s.causes ∧ (s.requestRun).startUp = s.startUp ∧
    (s.requestRun).free = s.free := by
  unfold State.requestRun
  dsimp only
  split
  · simp
  · rename_i run _
    have k := State.requestStore_keeps (s.updEngine .m (fun x => { x with station := some run.station })) .m run.station
    simp only [State.updEngine_eq] at k ⊢
    split <;> rename_i t h <;> rw [h] at k <;> simp at k <;> simp [k]

@[simp] theorem State.notGrantableHeld_keeps (s : State) (e : EngineId) :
    (s.notGrantableHeld e).pending = s.pending ∧ (s.notGrantableHeld e).time = s.time ∧
    (s.notGrantableHeld e).storeBanks = s.storeBanks ∧ (s.notGrantableHeld e).pointBanks = s.pointBanks ∧
    (s.notGrantableHeld e).cashbox = s.cashbox ∧ (s.notGrantableHeld e).pointSetup = s.pointSetup ∧
    (s.notGrantableHeld e).system = s.system ∧ (s.notGrantableHeld e).setupBlock = s.setupBlock ∧
    (s.notGrantableHeld e).unsaved = s.unsaved ∧ (s.notGrantableHeld e).setupFault = s.setupFault ∧
    (s.notGrantableHeld e).countMemory = s.countMemory ∧ (s.notGrantableHeld e).countLost = s.countLost ∧
    (s.notGrantableHeld e).causes = s.causes ∧ (s.notGrantableHeld e).startUp = s.startUp ∧
    (s.notGrantableHeld e).free = s.free := by
  unfold State.notGrantableHeld
  (repeat' split) <;> simp

@[simp] theorem State.tryEject_keeps (s : State) (e : EngineId) :
    (s.tryEject e).pending = s.pending ∧ (s.tryEject e).time = s.time ∧ (s.tryEject e).storeBanks = s.storeBanks ∧
    (s.tryEject e).pointBanks = s.pointBanks ∧ (s.tryEject e).cashbox = s.cashbox ∧
    (s.tryEject e).pointSetup = s.pointSetup ∧ (s.tryEject e).system = s.system ∧
    (s.tryEject e).setupBlock = s.setupBlock ∧ (s.tryEject e).unsaved = s.unsaved ∧
    (s.tryEject e).setupFault = s.setupFault ∧ (s.tryEject e).countMemory = s.countMemory ∧
    (s.tryEject e).countLost = s.countLost ∧ (s.tryEject e).causes = s.causes ∧ (s.tryEject e).startUp = s.startUp ∧
    (s.tryEject e).free = s.free := by
  unfold State.tryEject
  (repeat' split) <;> simp

@[simp] theorem State.afterRead_keeps (s : State) (e : EngineId) :
    (s.afterRead e).pending = s.pending ∧ (s.afterRead e).time = s.time ∧ (s.afterRead e).storeBanks = s.storeBanks ∧
    (s.afterRead e).pointBanks = s.pointBanks ∧ (s.afterRead e).cashbox = s.cashbox ∧
    (s.afterRead e).pointSetup = s.pointSetup ∧ (s.afterRead e).system = s.system ∧
    (s.afterRead e).setupBlock = s.setupBlock ∧ (s.afterRead e).unsaved = s.unsaved ∧
    (s.afterRead e).setupFault = s.setupFault ∧ (s.afterRead e).countMemory = s.countMemory ∧
    (s.afterRead e).countLost = s.countLost ∧ (s.afterRead e).causes = s.causes ∧
    (s.afterRead e).startUp = s.startUp ∧ (s.afterRead e).free = s.free := by
  unfold State.afterRead
  (try dsimp only)
  (repeat' split) <;> simp

@[simp] theorem State.finalNone_keeps (s : State) (e : EngineId) :
    (s.finalNone e).pending = s.pending ∧ (s.finalNone e).time = s.time ∧ (s.finalNone e).storeBanks = s.storeBanks ∧
    (s.finalNone e).pointBanks = s.pointBanks ∧ (s.finalNone e).cashbox = s.cashbox ∧
    (s.finalNone e).pointSetup = s.pointSetup ∧ (s.finalNone e).system = s.system ∧
    (s.finalNone e).setupBlock = s.setupBlock ∧ (s.finalNone e).unsaved = s.unsaved ∧
    (s.finalNone e).setupFault = s.setupFault ∧ (s.finalNone e).countMemory = s.countMemory ∧
    (s.finalNone e).countLost = s.countLost ∧ (s.finalNone e).causes = s.causes ∧
    (s.finalNone e).startUp = s.startUp ∧ (s.finalNone e).free = s.free := by
  unfold State.finalNone
  (try dsimp only)
  (repeat' split) <;> simp

@[simp] theorem State.clearEject_keeps (s : State) (e : EngineId) (i : Station) :
    (s.clearEject e i).pending = s.pending ∧ (s.clearEject e i).time = s.time ∧
    (s.clearEject e i).records = s.records ∧ (s.clearEject e i).points = s.points ∧ (s.clearEject e i).bus = s.bus ∧
    (s.clearEject e i).reconciler = s.reconciler ∧ (s.clearEject e i).storeBanks = s.storeBanks ∧
    (s.clearEject e i).pointBanks = s.pointBanks ∧ (s.clearEject e i).cashbox = s.cashbox ∧
    (s.clearEject e i).ports = s.ports ∧ (s.clearEject e i).pointSetup = s.pointSetup ∧
    (s.clearEject e i).system = s.system ∧ (s.clearEject e i).setupBlock = s.setupBlock ∧
    (s.clearEject e i).unsaved = s.unsaved ∧ (s.clearEject e i).setupFault = s.setupFault ∧
    (s.clearEject e i).countLost = s.countLost ∧ (s.clearEject e i).causes = s.causes ∧
    (s.clearEject e i).startUp = s.startUp ∧ (s.clearEject e i).free = s.free := by
  unfold State.clearEject
  simp

@[simp] theorem State.resultNone_keeps (s : State) (e : EngineId) :
    (s.resultNone e).pending = s.pending ∧ (s.resultNone e).time = s.time ∧
    (s.resultNone e).storeBanks = s.storeBanks ∧ (s.resultNone e).pointBanks = s.pointBanks ∧
    (s.resultNone e).cashbox = s.cashbox ∧ (s.resultNone e).pointSetup = s.pointSetup ∧
    (s.resultNone e).system = s.system ∧ (s.resultNone e).setupBlock = s.setupBlock ∧
    (s.resultNone e).unsaved = s.unsaved ∧ (s.resultNone e).setupFault = s.setupFault ∧
    (s.resultNone e).countMemory = s.countMemory ∧ (s.resultNone e).countLost = s.countLost ∧
    (s.resultNone e).causes = s.causes ∧ (s.resultNone e).startUp = s.startUp ∧ (s.resultNone e).free = s.free := by
  unfold State.resultNone
  (try dsimp only)
  (repeat' split) <;> simp

@[simp] theorem State.countEject_keeps (s : State) (e : EngineId) (i : Station) (k : Nat) (b : Bool) :
    (s.countEject e i k b).pending = s.pending ∧ (s.countEject e i k b).time = s.time ∧
    (s.countEject e i k b).points = s.points ∧ (s.countEject e i k b).bus = s.bus ∧
    (s.countEject e i k b).reconciler = s.reconciler ∧ (s.countEject e i k b).pointBanks = s.pointBanks ∧
    (s.countEject e i k b).pointSetup = s.pointSetup ∧ (s.countEject e i k b).system = s.system ∧
    (s.countEject e i k b).setupBlock = s.setupBlock ∧ (s.countEject e i k b).unsaved = s.unsaved ∧
    (s.countEject e i k b).setupFault = s.setupFault ∧ (s.countEject e i k b).countLost = s.countLost ∧
    (s.countEject e i k b).causes = s.causes ∧ (s.countEject e i k b).startUp = s.startUp ∧
    (s.countEject e i k b).free = s.free := by
  unfold State.countEject
  (try dsimp only)
  (repeat' split) <;> simp

@[simp] theorem State.nextItem_keeps (s : State) (e : EngineId) :
    (s.nextItem e).pending = s.pending ∧ (s.nextItem e).time = s.time ∧ (s.nextItem e).storeBanks = s.storeBanks ∧
    (s.nextItem e).pointBanks = s.pointBanks ∧ (s.nextItem e).cashbox = s.cashbox ∧
    (s.nextItem e).pointSetup = s.pointSetup ∧ (s.nextItem e).system = s.system ∧
    (s.nextItem e).setupBlock = s.setupBlock ∧ (s.nextItem e).unsaved = s.unsaved ∧
    (s.nextItem e).setupFault = s.setupFault ∧ (s.nextItem e).countMemory = s.countMemory ∧
    (s.nextItem e).countLost = s.countLost ∧ (s.nextItem e).causes = s.causes ∧ (s.nextItem e).startUp = s.startUp ∧
    (s.nextItem e).free = s.free := by
  unfold State.nextItem
  (try dsimp only)
  (repeat' split) <;> simp

@[simp] theorem State.resultItems_keeps (s : State) (e : EngineId) (i : Station) (k : Nat) (b : Bool) :
    (s.resultItems e i k b).pending = s.pending ∧ (s.resultItems e i k b).time = s.time ∧
    (s.resultItems e i k b).pointBanks = s.pointBanks ∧ (s.resultItems e i k b).pointSetup = s.pointSetup ∧
    (s.resultItems e i k b).system = s.system ∧ (s.resultItems e i k b).setupBlock = s.setupBlock ∧
    (s.resultItems e i k b).unsaved = s.unsaved ∧ (s.resultItems e i k b).setupFault = s.setupFault ∧
    (s.resultItems e i k b).countLost = s.countLost ∧ (s.resultItems e i k b).causes = s.causes ∧
    (s.resultItems e i k b).startUp = s.startUp ∧ (s.resultItems e i k b).free = s.free := by
  unfold State.resultItems
  (try dsimp only)
  (repeat' split) <;> simp

@[simp] theorem State.engineFailed_keeps (s : State) (e : EngineId) (i : Station) :
    (s.engineFailed e i).pending = s.pending ∧ (s.engineFailed e i).time = s.time ∧
    (s.engineFailed e i).storeBanks = s.storeBanks ∧ (s.engineFailed e i).pointBanks = s.pointBanks ∧
    (s.engineFailed e i).cashbox = s.cashbox ∧ (s.engineFailed e i).pointSetup = s.pointSetup ∧
    (s.engineFailed e i).system = s.system ∧ (s.engineFailed e i).setupBlock = s.setupBlock ∧
    (s.engineFailed e i).unsaved = s.unsaved ∧ (s.engineFailed e i).setupFault = s.setupFault ∧
    (s.engineFailed e i).countLost = s.countLost ∧ (s.engineFailed e i).causes = s.causes ∧
    (s.engineFailed e i).startUp = s.startUp ∧ (s.engineFailed e i).free = s.free := by
  unfold State.engineFailed
  simp

@[simp] theorem State.deadlineNone_keeps (s : State) (e : EngineId) (i : Station) :
    (s.deadlineNone e i).pending = s.pending ∧ (s.deadlineNone e i).time = s.time ∧
    (s.deadlineNone e i).storeBanks = s.storeBanks ∧ (s.deadlineNone e i).pointBanks = s.pointBanks ∧
    (s.deadlineNone e i).cashbox = s.cashbox ∧ (s.deadlineNone e i).pointSetup = s.pointSetup ∧
    (s.deadlineNone e i).system = s.system ∧ (s.deadlineNone e i).setupBlock = s.setupBlock ∧
    (s.deadlineNone e i).unsaved = s.unsaved ∧ (s.deadlineNone e i).setupFault = s.setupFault ∧
    (s.deadlineNone e i).countLost = s.countLost ∧ (s.deadlineNone e i).causes = s.causes ∧
    (s.deadlineNone e i).startUp = s.startUp ∧ (s.deadlineNone e i).free = s.free := by
  unfold State.deadlineNone
  simp

@[simp] theorem State.dropUnmade_keeps (s : State) :
    (s.dropUnmade).pending = s.pending ∧ (s.dropUnmade).time = s.time ∧ (s.dropUnmade).records = s.records ∧
    (s.dropUnmade).stores = s.stores ∧ (s.dropUnmade).points = s.points ∧
    (s.dropUnmade).engines = s.engines ∧ (s.dropUnmade).bus = s.bus ∧
    (s.dropUnmade).storeBanks = s.storeBanks ∧ (s.dropUnmade).pointBanks = s.pointBanks ∧
    (s.dropUnmade).cashbox = s.cashbox ∧ (s.dropUnmade).ports = s.ports ∧
    (s.dropUnmade).pointSetup = s.pointSetup ∧ (s.dropUnmade).system = s.system ∧
    (s.dropUnmade).setupBlock = s.setupBlock ∧ (s.dropUnmade).unsaved = s.unsaved ∧
    (s.dropUnmade).setupFault = s.setupFault ∧ (s.dropUnmade).countMemory = s.countMemory ∧
    (s.dropUnmade).countLost = s.countLost ∧ (s.dropUnmade).causes = s.causes ∧
    (s.dropUnmade).startUp = s.startUp ∧ (s.dropUnmade).free = s.free := by
  unfold State.dropUnmade
  dsimp only
  simp

/-- R176: a piece of work is kept as it is when no engine's final NONE is behind it or its store is in service. -/
theorem State.unmade_of_stays (s : State) (w : Work) (h : w.afterNone = true → (s.store w.station).working = true) :
    s.unmade w = some w := by
  unfold State.unmade
  cases hw : w.afterNone <;> simp_all

theorem State.filterMap_unmade (s : State) (ws : List Work)
    (h : ∀ w ∈ ws, w.afterNone = true → (s.store w.station).working = true) : ws.filterMap s.unmade = ws := by
  induction ws with
  | nil => rfl
  | cons w ws ih =>
    rw [List.filterMap_cons, s.unmade_of_stays w (h w (by simp)), ih fun x hx => h x (by simp [hx])]

/-- R176: nothing is dropped while every read after a final NONE has its store in service. -/
theorem State.dropUnmade_of_stays (s : State)
    (h : ∀ w ∈ s.reconciler.work ++ s.reconciler.deferred, w.afterNone = true → (s.store w.station).working = true) :
    s.dropUnmade = s := by
  have hw : s.waitingWork.filterMap s.unmade = s.waitingWork := by
    refine s.filterMap_unmade _ fun w hm => h w (List.mem_append_left _ ?_)
    unfold State.waitingWork at hm
    split at hm
    · exact List.mem_of_mem_drop hm
    · exact hm
  have hd := s.filterMap_unmade s.reconciler.deferred fun w hm => h w (List.mem_append_right _ hm)
  have hj : (if s.headInFlight then s.reconciler.work.take 1 else []) ++ s.waitingWork = s.reconciler.work := by
    unfold State.waitingWork
    split
    · exact List.take_append_drop 1 _
    · rfl
  unfold State.dropUnmade State.changeWaiting
  simp only [hw, hj]
  change s.setReconciler ⟨s.reconciler.work, s.reconciler.deferred.filterMap s.unmade⟩ = s
  rw [hd]
  rfl

@[simp] theorem State.endWait_keeps (s : State) (e : EngineId) :
    (s.endWait e).pending = s.pending ∧ (s.endWait e).time = s.time ∧ (s.endWait e).storeBanks = s.storeBanks ∧
    (s.endWait e).pointBanks = s.pointBanks ∧ (s.endWait e).cashbox = s.cashbox ∧
    (s.endWait e).pointSetup = s.pointSetup ∧ (s.endWait e).system = s.system ∧
    (s.endWait e).setupBlock = s.setupBlock ∧ (s.endWait e).unsaved = s.unsaved ∧
    (s.endWait e).setupFault = s.setupFault ∧ (s.endWait e).countMemory = s.countMemory ∧
    (s.endWait e).countLost = s.countLost ∧ (s.endWait e).causes = s.causes ∧ (s.endWait e).startUp = s.startUp ∧
    (s.endWait e).free = s.free := by
  unfold State.endWait
  (repeat' split) <;> simp

@[simp] theorem State.resumeCut_keeps (s : State) (p : PointId) :
    (s.resumeCut p).pending = s.pending ∧ (s.resumeCut p).time = s.time ∧ (s.resumeCut p).storeBanks = s.storeBanks ∧
    (s.resumeCut p).pointBanks = s.pointBanks ∧ (s.resumeCut p).cashbox = s.cashbox ∧
    (s.resumeCut p).pointSetup = s.pointSetup ∧ (s.resumeCut p).system = s.system ∧
    (s.resumeCut p).setupBlock = s.setupBlock ∧ (s.resumeCut p).unsaved = s.unsaved ∧
    (s.resumeCut p).setupFault = s.setupFault ∧ (s.resumeCut p).countMemory = s.countMemory ∧
    (s.resumeCut p).countLost = s.countLost ∧ (s.resumeCut p).causes = s.causes ∧
    (s.resumeCut p).startUp = s.startUp ∧ (s.resumeCut p).free = s.free := by
  unfold State.resumeCut
  (try dsimp only)
  (repeat' split) <;> simp

@[simp] theorem State.stopRun_keeps (s : State) :
    (s.stopRun).pending = s.pending ∧ (s.stopRun).time = s.time ∧ (s.stopRun).storeBanks = s.storeBanks ∧
    (s.stopRun).pointBanks = s.pointBanks ∧ (s.stopRun).cashbox = s.cashbox ∧ (s.stopRun).pointSetup = s.pointSetup ∧
    (s.stopRun).system = s.system ∧ (s.stopRun).setupBlock = s.setupBlock ∧ (s.stopRun).unsaved = s.unsaved ∧
    (s.stopRun).setupFault = s.setupFault ∧ (s.stopRun).countMemory = s.countMemory ∧
    (s.stopRun).countLost = s.countLost ∧ (s.stopRun).causes = s.causes ∧ (s.stopRun).startUp = s.startUp ∧
    (s.stopRun).free = s.free := by
  unfold State.stopRun
  (try dsimp only)
  (repeat' split) <;> simp

@[simp] theorem State.settleBlocks_keeps (s : State) :
    (s.settleBlocks).pending = s.pending ∧ (s.settleBlocks).time = s.time ∧
    (s.settleBlocks).storeBanks = s.storeBanks ∧ (s.settleBlocks).pointBanks = s.pointBanks ∧
    (s.settleBlocks).cashbox = s.cashbox ∧ (s.settleBlocks).pointSetup = s.pointSetup ∧
    (s.settleBlocks).system = s.system ∧ (s.settleBlocks).setupBlock = s.setupBlock ∧
    (s.settleBlocks).unsaved = s.unsaved ∧ (s.settleBlocks).setupFault = s.setupFault ∧
    (s.settleBlocks).countMemory = s.countMemory ∧ (s.settleBlocks).countLost = s.countLost ∧
    (s.settleBlocks).causes = s.causes ∧ (s.settleBlocks).startUp = s.startUp ∧ (s.settleBlocks).free = s.free := by
  unfold State.settleBlocks
  simp

/-! ## The list change number (R211) -/

theorem State.relistOnce_slot (before s : State) (i : Slot) :
    (before.relistOnce s).slot i = (s.slot i).map (Rec.relistedOnce (before.slot i)) := by
  simp [State.relistOnce, State.slot]

@[simp] theorem State.relistOnce_keeps (before s : State) :
    (before.relistOnce s).pending = s.pending ∧ (before.relistOnce s).time = s.time ∧
    (before.relistOnce s).stores = s.stores ∧ (before.relistOnce s).points = s.points ∧
    (before.relistOnce s).engines = s.engines ∧ (before.relistOnce s).bus = s.bus ∧
    (before.relistOnce s).reconciler = s.reconciler ∧ (before.relistOnce s).storeBanks = s.storeBanks ∧
    (before.relistOnce s).pointBanks = s.pointBanks ∧ (before.relistOnce s).cashbox = s.cashbox ∧
    (before.relistOnce s).ports = s.ports ∧ (before.relistOnce s).pointSetup = s.pointSetup ∧
    (before.relistOnce s).system = s.system ∧ (before.relistOnce s).setupBlock = s.setupBlock ∧
    (before.relistOnce s).unsaved = s.unsaved ∧ (before.relistOnce s).setupFault = s.setupFault ∧
    (before.relistOnce s).countMemory = s.countMemory ∧ (before.relistOnce s).countLost = s.countLost ∧
    (before.relistOnce s).causes = s.causes ∧ (before.relistOnce s).startUp = s.startUp ∧
    (before.relistOnce s).free = s.free := by
  simp [State.relistOnce]

/-- A list change number that moved at most one further stays as it is. -/
theorem Rec.relistedOnce_one {b r : Rec} (h : r.listChange = b.listChange ∨ r.listChange = b.listChange + 1#8) :
    Rec.relistedOnce (some b) r = r := by
  unfold Rec.relistedOnce
  dsimp only
  split
  · rename_i hc
    rcases h with h | h
    · exact absurd h.symm hc.2
    · rw [← h]
  · rfl

/-- Records whose lists did not change are as they were. -/
theorem State.relistOnce_of_records {before s : State} (h : s.records = before.records) : before.relistOnce s = s := by
  have hz : s.records.zipWith (fun r b => r.map (Rec.relistedOnce b)) before.records = s.records := by
    rw [h]
    apply Vector.ext
    intro i hi
    rw [Vector.getElem_zipWith]
    cases before.records[i] with
    | none => rfl
    | some r => simp [Rec.relistedOnce_one (b := r) (r := r) (.inl rfl)]
  unfold State.relistOnce
  rw [hz]

end Sys2Proof.Machine
end

