-- ==== Sys2Proof/Laws/Link.lean ====
section
/-! SUPPORT. What the operations of the link ports leave unchanged. -/

namespace Sys2Proof.Machine

@[simp] theorem State.begun_keeps (s : State) :
    (s.begun).pending = s.pending ∧ (s.begun).time = s.time ∧ (s.begun).records = s.records ∧
    (s.begun).stores = s.stores ∧ (s.begun).engines = s.engines ∧ (s.begun).bus = s.bus ∧
    (s.begun).reconciler = s.reconciler ∧ (s.begun).storeBanks = s.storeBanks ∧ (s.begun).pointBanks = s.pointBanks ∧
    (s.begun).cashbox = s.cashbox ∧ (s.begun).ports = s.ports ∧ (s.begun).pointSetup = s.pointSetup ∧
    (s.begun).system = s.system ∧ (s.begun).setupBlock = s.setupBlock ∧ (s.begun).unsaved = s.unsaved ∧
    (s.begun).setupFault = s.setupFault ∧ (s.begun).countMemory = s.countMemory ∧ (s.begun).countLost = s.countLost ∧
    (s.begun).causes = s.causes ∧ (s.begun).startUp = s.startUp ∧ (s.begun).free = s.free := by
  unfold State.begun
  simp

@[simp] theorem State.respond_keeps (s : State) (p : PortId) (c : Byte) (x : Status) (b : List Byte) :
    (s.respond p c x b).pending = s.pending ∧ (s.respond p c x b).time = s.time ∧
    (s.respond p c x b).records = s.records ∧ (s.respond p c x b).stores = s.stores ∧
    (s.respond p c x b).points = s.points ∧ (s.respond p c x b).engines = s.engines ∧
    (s.respond p c x b).bus = s.bus ∧ (s.respond p c x b).reconciler = s.reconciler ∧
    (s.respond p c x b).storeBanks = s.storeBanks ∧ (s.respond p c x b).pointBanks = s.pointBanks ∧
    (s.respond p c x b).cashbox = s.cashbox ∧ (s.respond p c x b).pointSetup = s.pointSetup ∧
    (s.respond p c x b).system = s.system ∧ (s.respond p c x b).setupBlock = s.setupBlock ∧
    (s.respond p c x b).unsaved = s.unsaved ∧ (s.respond p c x b).setupFault = s.setupFault ∧
    (s.respond p c x b).countMemory = s.countMemory ∧ (s.respond p c x b).countLost = s.countLost ∧
    (s.respond p c x b).causes = s.causes ∧ (s.respond p c x b).startUp = s.startUp := by
  unfold State.respond
  simp

@[simp] theorem State.done_keeps (s : State) (k : Taken) (c : Cmd) (x : Status) (b : List Byte) :
    (s.done k c x b).pending = s.pending ∧ (s.done k c x b).time = s.time ∧ (s.done k c x b).records = s.records ∧
    (s.done k c x b).stores = s.stores ∧ (s.done k c x b).points = s.points ∧ (s.done k c x b).engines = s.engines ∧
    (s.done k c x b).bus = s.bus ∧ (s.done k c x b).reconciler = s.reconciler ∧
    (s.done k c x b).storeBanks = s.storeBanks ∧ (s.done k c x b).pointBanks = s.pointBanks ∧
    (s.done k c x b).cashbox = s.cashbox ∧ (s.done k c x b).pointSetup = s.pointSetup ∧
    (s.done k c x b).system = s.system ∧ (s.done k c x b).setupBlock = s.setupBlock ∧
    (s.done k c x b).unsaved = s.unsaved ∧ (s.done k c x b).setupFault = s.setupFault ∧
    (s.done k c x b).countMemory = s.countMemory ∧ (s.done k c x b).countLost = s.countLost ∧
    (s.done k c x b).causes = s.causes ∧ (s.done k c x b).startUp = s.startUp := by
  unfold State.done
  simp

@[simp] theorem State.framed_keeps (s : State) (p : PortId) :
    (s.framed p).pending = s.pending ∧ (s.framed p).time = s.time ∧ (s.framed p).records = s.records ∧
    (s.framed p).stores = s.stores ∧ (s.framed p).engines = s.engines ∧ (s.framed p).bus = s.bus ∧
    (s.framed p).reconciler = s.reconciler ∧ (s.framed p).storeBanks = s.storeBanks ∧
    (s.framed p).pointBanks = s.pointBanks ∧ (s.framed p).cashbox = s.cashbox ∧
    (s.framed p).pointSetup = s.pointSetup ∧ (s.framed p).system = s.system ∧ (s.framed p).setupBlock = s.setupBlock ∧
    (s.framed p).unsaved = s.unsaved ∧ (s.framed p).setupFault = s.setupFault ∧
    (s.framed p).countMemory = s.countMemory ∧ (s.framed p).countLost = s.countLost ∧ (s.framed p).causes = s.causes ∧
    (s.framed p).startUp = s.startUp ∧ (s.framed p).free = s.free := by
  unfold State.framed
  simp

@[simp] theorem State.dropQualifiers_keeps (s : State) (p : PortId) :
    (s.dropQualifiers p).pending = s.pending ∧ (s.dropQualifiers p).time = s.time ∧
    (s.dropQualifiers p).records = s.records ∧ (s.dropQualifiers p).stores = s.stores ∧
    (s.dropQualifiers p).points = s.points ∧ (s.dropQualifiers p).engines = s.engines ∧
    (s.dropQualifiers p).bus = s.bus ∧ (s.dropQualifiers p).reconciler = s.reconciler ∧
    (s.dropQualifiers p).storeBanks = s.storeBanks ∧ (s.dropQualifiers p).pointBanks = s.pointBanks ∧
    (s.dropQualifiers p).cashbox = s.cashbox ∧ (s.dropQualifiers p).pointSetup = s.pointSetup ∧
    (s.dropQualifiers p).system = s.system ∧ (s.dropQualifiers p).setupBlock = s.setupBlock ∧
    (s.dropQualifiers p).unsaved = s.unsaved ∧ (s.dropQualifiers p).setupFault = s.setupFault ∧
    (s.dropQualifiers p).countMemory = s.countMemory ∧ (s.dropQualifiers p).countLost = s.countLost ∧
    (s.dropQualifiers p).causes = s.causes ∧ (s.dropQualifiers p).startUp = s.startUp ∧
    (s.dropQualifiers p).free = s.free := by
  unfold State.dropQualifiers
  simp

@[simp] theorem State.owe_keeps (s : State) (p : PortId) (c : Cmd) :
    (s.owe p c).pending = s.pending ∧ (s.owe p c).time = s.time ∧ (s.owe p c).records = s.records ∧
    (s.owe p c).stores = s.stores ∧ (s.owe p c).points = s.points ∧ (s.owe p c).engines = s.engines ∧
    (s.owe p c).bus = s.bus ∧ (s.owe p c).reconciler = s.reconciler ∧ (s.owe p c).storeBanks = s.storeBanks ∧
    (s.owe p c).pointBanks = s.pointBanks ∧ (s.owe p c).cashbox = s.cashbox ∧ (s.owe p c).pointSetup = s.pointSetup ∧
    (s.owe p c).system = s.system ∧ (s.owe p c).setupBlock = s.setupBlock ∧ (s.owe p c).unsaved = s.unsaved ∧
    (s.owe p c).setupFault = s.setupFault ∧ (s.owe p c).countMemory = s.countMemory ∧
    (s.owe p c).countLost = s.countLost ∧ (s.owe p c).causes = s.causes ∧ (s.owe p c).startUp = s.startUp ∧
    (s.owe p c).free = s.free := by
  unfold State.owe
  simp

@[simp] theorem State.taken_keeps (s : State) (p : PortId) (c : Cmd) :
    (s.taken p c).pending = s.pending ∧ (s.taken p c).time = s.time ∧ (s.taken p c).records = s.records ∧
    (s.taken p c).stores = s.stores ∧ (s.taken p c).engines = s.engines ∧ (s.taken p c).bus = s.bus ∧
    (s.taken p c).reconciler = s.reconciler ∧ (s.taken p c).storeBanks = s.storeBanks ∧
    (s.taken p c).pointBanks = s.pointBanks ∧ (s.taken p c).cashbox = s.cashbox ∧
    (s.taken p c).pointSetup = s.pointSetup ∧ (s.taken p c).system = s.system ∧
    (s.taken p c).setupBlock = s.setupBlock ∧ (s.taken p c).unsaved = s.unsaved ∧
    (s.taken p c).setupFault = s.setupFault ∧ (s.taken p c).countMemory = s.countMemory ∧
    (s.taken p c).countLost = s.countLost ∧ (s.taken p c).causes = s.causes ∧ (s.taken p c).startUp = s.startUp ∧
    (s.taken p c).free = s.free := by
  unfold State.taken
  simp

@[simp] theorem State.deferredReply_keeps (s : State) (c : Cmd) (x : Status) (b : List Byte) :
    (s.deferredReply c x b).pending = s.pending ∧ (s.deferredReply c x b).time = s.time ∧
    (s.deferredReply c x b).records = s.records ∧ (s.deferredReply c x b).stores = s.stores ∧
    (s.deferredReply c x b).points = s.points ∧ (s.deferredReply c x b).engines = s.engines ∧
    (s.deferredReply c x b).bus = s.bus ∧ (s.deferredReply c x b).reconciler = s.reconciler ∧
    (s.deferredReply c x b).storeBanks = s.storeBanks ∧ (s.deferredReply c x b).pointBanks = s.pointBanks ∧
    (s.deferredReply c x b).cashbox = s.cashbox ∧ (s.deferredReply c x b).pointSetup = s.pointSetup ∧
    (s.deferredReply c x b).system = s.system ∧ (s.deferredReply c x b).setupBlock = s.setupBlock ∧
    (s.deferredReply c x b).unsaved = s.unsaved ∧ (s.deferredReply c x b).setupFault = s.setupFault ∧
    (s.deferredReply c x b).countMemory = s.countMemory ∧ (s.deferredReply c x b).countLost = s.countLost ∧
    (s.deferredReply c x b).causes = s.causes ∧ (s.deferredReply c x b).startUp = s.startUp := by
  unfold State.deferredReply
  simp

end Sys2Proof.Machine
end

