-- ==== Sys2Proof/Laws/Spec.lean ====
section
/-! SUPPORT. What the shared operations do, said once: taking a command and answering it, finding a record, releasing a
reservation, renewing the masks. -/

namespace Sys2Proof.Machine

/-! ## Reading a state that has the same tables -/

theorem State.slot_congr {s t : State} (h : t.records = s.records) (i : Slot) : t.slot i = s.slot i := by
  simp [State.slot, h]

theorem State.store_congr {s t : State} (h : t.stores = s.stores) (i : Station) : t.store i = s.store i := by
  simp [State.store, h]

theorem State.point_congr {s t : State} (h : t.points = s.points) (p : PointId) : t.point p = s.point p := by
  simp [State.point, h]

theorem State.engine_congr {s t : State} (h : t.engines = s.engines) (e : EngineId) : t.engine e = s.engine e := by
  simp [State.engine, h]

theorem State.port_congr {s t : State} (h : t.ports = s.ports) (p : PortId) : t.port p = s.port p := by
  simp [State.port, h]

theorem State.lookup_congr {s t : State} (h : t.records = s.records) (tag : Nat) : t.lookup tag = s.lookup tag := by
  simp [State.lookup, State.findTag, State.slot, h]

theorem State.liveRecords_congr {s t : State} (h : t.records = s.records) : t.liveRecords = s.liveRecords := by
  simp [State.liveRecords, State.slot, h]

/-- A core keeps the binding. -/
theorem Point.core_binding (x : Point) : x.core.binding = x.binding := rfl

theorem State.pointOf_congr {s t : State} (h : ∀ p, (t.point p).core = (s.point p).core) (tag : Nat) :
    t.pointOf tag = s.pointOf tag := by
  have h1 := congrArg Point.binding (h .p1)
  have h2 := congrArg Point.binding (h .p2)
  simp only [Point.core_binding, State.point, pairGet] at h1 h2
  simp [State.pointOf, h1, h2]

/-! ## Finding a record -/

/-- A tag that no live record has is not found. -/
theorem State.findTag_none {s : State} {tag : Nat} (h : ∀ i r, s.slot i = some r → r.tag ≠ tag) :
    s.findTag tag = none := by
  unfold State.findTag
  rw [List.find?_eq_none]
  intro i _
  cases hs : s.slot i with
  | none => simp
  | some r => simpa using h i r hs

theorem State.lookup_none {s : State} {tag : Nat} (h : ∀ i r, s.slot i = some r → r.tag ≠ tag) :
    s.lookup tag = none := by
  simp [State.lookup, State.findTag_none h]

theorem mem_allSlots (i : Slot) : i ∈ allSlots := by revert i; decide

/-- The record that a tag names is found in its slot. -/
theorem State.lookup_holds {s : State} {tag : BitVec 16} {i : Slot} {r : Rec} (h : s.holds tag i r) :
    s.lookup tag.toNat = some (i, r) := by
  obtain ⟨_, ht, hs, hu⟩ := h
  have hf : s.findTag tag.toNat = some i := by
    unfold State.findTag
    cases hfind : allSlots.find? (fun j => (s.slot j).any (fun q => q.tag == tag.toNat)) with
    | none =>
      rw [List.find?_eq_none] at hfind
      exact absurd (by simp [hs, ht]) (hfind i (mem_allSlots i))
    | some j =>
      have hj := List.find?_some hfind
      cases hsj : s.slot j with
      | none => simp [hsj] at hj
      | some q => rw [hu j q hsj (by simp [hsj] at hj; simp [hj, ht])]
  simp [State.lookup, hf, hs]

/-! ## Taking a command (R184, R186) -/

/-- A ready port lets the command through. -/
theorem State.ready_gate {s : State} {p : PortId} {c : Cmd} (h : s.ready p c) :
    (s.port p).deaf = false ∧ s.gate p c = none := by
  obtain ⟨h1, h1', h2, h3, h4⟩ := h
  refine ⟨by simp [Port.deaf, h1, h1'], ?_⟩
  unfold State.gate
  rcases h2 with h2 | h2 <;> rcases h4 with h4 | h4 <;> cases hf : s.setupFault <;> simp_all

/-- A command whose body fits, at a ready port, is its own rule on the state that took it. -/
theorem State.takeCommand_ready {α β : Type} {s : State} {p : PortId} {c : Cmd} (h : s.ready p c) {f : α}
    {form : α → Option β} {g : β} (hf : form f = some g) (rule : State → Taken → β → Answer) :
    s.takeCommand p c (.fits f) form rule = rule (s.taken p c) (s.qualifiers p) g := by
  obtain ⟨h1, h2⟩ := State.ready_gate h
  simp [State.takeCommand, h1, h2, hf]

/-- A command whose body does not fit, at a ready port, is turned away with RANGE. -/
theorem State.takeCommand_unformed {α β : Type} {s : State} {p : PortId} {c : Cmd} (h : s.ready p c) {f : α}
    {form : α → Option β} (hf : form f = none) (rule : State → Taken → β → Answer) :
    s.takeCommand p c (.fits f) form rule = s.turnAway p c .range := by
  obtain ⟨h1, h2⟩ := State.ready_gate h
  simp [State.takeCommand, h1, h2, hf]

/-- A frame that a reply meets is discarded. -/
theorem State.takeCommand_deaf {α β : Type} {s : State} {p : PortId} {c : Cmd} (h : (s.port p).deaf = true) (b : Body α)
    (form : α → Option β) (rule : State → Taken → β → Answer) : s.takeCommand p c b form rule = .next s.begun := by
  simp [State.takeCommand, h]

/-- The port that took a command waits to answer it. -/
theorem State.taken_port (s : State) (p : PortId) (c : Cmd) : (s.taken p c).port p = (s.port p).waits c := by
  cases p <;> simp [State.taken, State.framed, State.dropQualifiers, State.owe, State.updPort, State.setPort,
    State.begun, State.updPoint, State.setPoint, State.port, portGet, portPut, Port.waits]

theorem State.taken_port_ne (s : State) (p q : PortId) (c : Cmd) (h : q ≠ p) : (s.taken p c).port q = s.port q := by
  cases p <;> cases q <;> simp_all [State.taken, State.framed, State.dropQualifiers, State.owe, State.updPort,
    State.setPort, State.begun, State.updPoint, State.setPoint, State.port, portGet, portPut]

@[simp] theorem State.begun_core (s : State) (q : PointId) : (s.begun.point q).core = (s.point q).core := by
  cases q <;> simp [State.begun, State.updPoint, State.setPoint, State.point, pairGet, pairPut, Point.core]

theorem State.taken_core (s : State) (p : PortId) (c : Cmd) (q : PointId) :
    ((s.taken p c).point q).core = (s.point q).core := by
  cases p <;> cases q <;> simp [State.taken, State.framed, State.dropQualifiers, State.owe, State.updPort,
    State.setPort, State.begun, State.updPoint, State.setPoint, State.point, pairGet, pairPut, Point.core]

@[simp] theorem State.taken_slot (s : State) (p : PortId) (c : Cmd) (i : Slot) : (s.taken p c).slot i = s.slot i :=
  State.slot_congr (by simp) i

@[simp] theorem State.taken_store (s : State) (p : PortId) (c : Cmd) (i : Station) :
    (s.taken p c).store i = s.store i := State.store_congr (by simp) i

@[simp] theorem State.taken_engine (s : State) (p : PortId) (c : Cmd) (e : EngineId) :
    (s.taken p c).engine e = s.engine e := State.engine_congr (by simp) e

@[simp] theorem State.taken_lookup (s : State) (p : PortId) (c : Cmd) (tag : Nat) :
    (s.taken p c).lookup tag = s.lookup tag := State.lookup_congr (by simp) tag

@[simp] theorem State.taken_pointOf (s : State) (p : PortId) (c : Cmd) (tag : Nat) :
    (s.taken p c).pointOf tag = s.pointOf tag := State.pointOf_congr (s.taken_core p c) tag

/-! ## Answering (R185) -/

/-- A port that waits and is answered. -/
theorem State.done_port (s : State) (k : Taken) (c : Cmd) (x : Status) (b : List Byte) :
    (s.done k c x b).port k.port = { s.port k.port with reply := some ⟨c.code, x, b⟩ } := by
  rcases k with ⟨p, _, _⟩
  cases p <;> simp [State.done, State.respond, State.updPort, State.setPort, State.port, portGet, portPut]

theorem State.done_port_ne (s : State) (k : Taken) (c : Cmd) (x : Status) (b : List Byte) (q : PortId)
    (h : q ≠ k.port) : (s.done k c x b).port q = s.port q := by
  rcases k with ⟨p, _, _⟩
  cases p <;> cases q <;> simp_all [State.done, State.respond, State.updPort, State.setPort, State.port, portGet,
    portPut]

/-- A command taken on ports that nothing else has changed, and answered. -/
theorem Answered.of_done {s s' : State} {p : PortId} {c : Cmd} {x : Status} {b : List Byte}
    (h : s'.ports = (s.taken p c).ports) : Answered s (s'.done (s.qualifiers p) c x b) p c x b := by
  constructor
  · have h1 := State.done_port s' (s.qualifiers p) c x b
    rw [show (s.qualifiers p).port = p from rfl] at h1
    rw [h1, State.port_congr h, State.taken_port]
    simp [Port.waits, Port.answered]
  · intro q hq
    rw [State.done_port_ne _ _ _ _ _ _ (by simpa [State.qualifiers] using hq), State.port_congr h,
      State.taken_port_ne _ _ _ _ hq]

/-! ## The masks (R93) -/

/-- Renewing a mask changes nothing of a point but its mask. -/
@[simp] theorem State.refreshMask_core (s : State) (p q : PointId) :
    ((s.refreshMask p).point q).core = (s.point q).core := by
  unfold State.refreshMask State.sendMask State.send
  simp only
  cases p <;> cases q <;> split <;>
    simp [State.updPoint, State.setPoint, State.point, pairGet, pairPut, Point.core]

@[simp] theorem State.refreshMasks_core (s : State) (q : PointId) : ((s.refreshMasks).point q).core = (s.point q).core := by
  unfold State.refreshMasks
  rw [State.refreshMask_core, State.refreshMask_core]

@[simp] theorem State.refreshMasks_slot (s : State) (i : Slot) : s.refreshMasks.slot i = s.slot i :=
  State.slot_congr (by simp) i

@[simp] theorem State.refreshMasks_store (s : State) (i : Station) : s.refreshMasks.store i = s.store i :=
  State.store_congr (by simp) i

@[simp] theorem State.refreshMasks_engine (s : State) (e : EngineId) : s.refreshMasks.engine e = s.engine e :=
  State.engine_congr (by simp) e

@[simp] theorem State.refreshMasks_port (s : State) (p : PortId) : s.refreshMasks.port p = s.port p :=
  State.port_congr (by simp) p

/-! ## Credits (R99) -/

/-- At a point whose credits are settled there is nothing to apply. -/
theorem State.applyCredits_settled {s : State} {p : PointId} (h : (s.point p).queueSettled) : s.applyCredits p = s := by
  obtain ⟨h1, h2⟩ := h
  have hloop : ∀ n, s.applyLoop p n = s := by
    intro n
    cases n with
    | zero => rfl
    | succ n =>
      have : (s.point p).queue.find? (fun c => !c.applied) = none := by
        rw [List.find?_eq_none]; intro c hc; simp [h1 c hc]
      simp [State.applyLoop, this]
  have hdrop : (s.point p).queue.dropWhile (fun c => c.route.isSome && c.applied) = (s.point p).queue := by
    cases hq : (s.point p).queue with
    | nil => rfl
    | cons c cs => simp [h2 c (by simp [hq])]
  unfold State.applyCredits State.dropDone
  rw [hloop, State.updPoint, hdrop]
  rcases s with ⟨⟩
  cases p <;> simp [State.setPoint, State.point, pairGet, pairPut]

/-! ## Releasing a reservation (R72) -/

theorem State.unreserve_store (list : List Entry) (s : State) (h : (list.map Entry.station).Nodup) (i : Station) :
    (s.unreserve list).store i = { s.store i with reserved := (s.store i).reserved - itemsAt list i } := by
  induction list generalizing s with
  | nil => simp [State.unreserve, itemsAt]
  | cons en rest ih =>
    simp only [List.map_cons, List.nodup_cons] at h
    rw [State.unreserve, ih _ h.2]
    by_cases he : en.station = i
    · subst he
      have hz : itemsAt rest en.station = 0 := by
        unfold itemsAt
        rw [List.find?_eq_none.mpr]
        intro x hx hxe
        exact h.1 (List.mem_map.mpr ⟨x, hx, by simpa using hxe⟩)
      rw [hz]
      simp [State.updStore, itemsAt]
    ·     simp [State.updStore, itemsAt, he, State.store_setStore_ne]

/-- R72: a full release frees the slot's list and lowers each store's reserved by what the list held there. -/
theorem State.release_spec {s : State} {i : Slot} {r : Rec} (hs : s.slot i = some r) (hl : (r.list.map Entry.station).Nodup) :
    (s.release i).slot i
        = some { r with list := [], pinned := false,
                        listChange := if r.list = [] then r.listChange else r.listChange + 1#8 }
      ∧ OtherSlots i s (s.release i) ∧ Released r.list s (s.release i) := by
  unfold State.release
  rw [hs]
  cases hlist : r.list with
  | nil =>
    refine ⟨?_, ?_, ?_⟩
    · simp [hlist]
    · intro j hj; simp [hlist, State.slot_setSlot_ne, hj.symm]
    · intro j; simp [hlist, itemsAt]
  | cons en rest =>
    have hu := State.unreserve_store r.list s hl
    rw [hlist] at hu
    refine ⟨?_, ?_, ?_⟩
    · simp [hlist, Rec.relisted]
    · intro j hj
      simp only [hlist]
      rw [State.slot_setSlot_ne _ _ _ _ hj.symm]
      exact State.slot_congr (by simp) j
    · intro j
      rw [← hlist] at hu ⊢
      simpa [hlist, State.store] using hu j

end Sys2Proof.Machine
end

