-- ==== Sys2Proof/Tests/Slice0.lean ====
section
/-! SUPPORT. Named tests: terms that WellFormed refuses, frames written out from R210, the worked examples of the manual as
one step each, and for each statement a concrete state and operands that meet its hypotheses. -/

open Sys2Proof Sys2Proof.Machine

namespace Sys2Proof.Machine

set_option Elab.async false

/-! ## States the witnesses and tests start from -/

/-- A fitted station of a denomination, with the factory thresholds (capacity 100, low 10, high 80, route limit 90). -/
def fittedWith (d : Nat) : StoreCfg := { StoreCfg.factory with present := true, denomination := d }

/-- A fitted store of a denomination with n items, verified. -/
def State.stock (s : State) (i : Station) (d n : Nat) : State :=
  s.updStore i (fun r => { r with cfg := fittedWith d, count := n, state := workingState n, unverified := false }.levelled)

/-- The machine after start-up, with no station fitted. -/
def ready : State := { State.reset with startUp := ⟨true, false, 0, false⟩ }

/-- Five items of 100, four of 50 and twenty of 10, in stations 1 to 3. -/
def shop : State := ((ready.stock 0 100 5).stock 1 50 4).stock 2 10 20

/-- A record with tag 7 in the first slot. -/
def State.with7 (s : State) (r : Rec) : State := s.setSlot 0 (some r)

/-- The same, bound to point P1. -/
def State.at7 (s : State) (r : Rec) : State := (s.with7 r).updPoint .p1 (fun x => { x with binding := .record 7 })

/-- An order of 300 just opened. -/
def sale : Rec := Rec.fresh 5 0 7 .sale 300

/-- A refund of 250 just opened. -/
def refund : Rec := Rec.fresh 5 0 7 .refund 250

/-- The order tendered 550: 250 is owed. -/
def tendered : Rec := { sale with state := .tendering, tendered := 550, owed := some 250 }

/-- The order SETTLED: two items of 100 and one of 50 reserved. -/
def settled : Rec :=
  { tendered with state := .settled, planned := some 250, list := [⟨0, 2⟩, ⟨1, 1⟩], settledFrom := some .new
                  lapseAt := some 18000 }

/-- The order being paid. -/
def paying : Rec := { settled with state := .paying, delivered := some 0, lapseAt := none }

/-- The shop with the SETTLED order's items reserved. -/
def reserved : State := (shop.updStore 0 (fun r => { r with reserved := 2 })).updStore 1 (fun r => { r with reserved := 1 })

/-- An engine that pays the order and holds station 1. -/
def payer : Engine :=
  { Engine.reset with state := .running, record := some 7, mode := some .cont, station := some 0, grant := .held }

/-- The order being paid at P1 by engine P1, which holds station 1. -/
def State.paidBy (s : State) (x : Engine) : State :=
  ((s.at7 paying).setEngine .p1 x).updStore 0 (fun r => { r with holder := some .p1 })

/-- A request on the wires for a requester. -/
def State.wired (s : State) (r : Requester) (i : Station) (op : TubeOp) : State :=
  s.setBus { s.bus with holder := some r, exchange := some ⟨r, i, op, 3, false, false⟩ }

/-- A piece of work at the head of the reconciler's list, with a request of it on the wires. -/
def State.work7 (s : State) (w : Work) (op : TubeOp) : State :=
  (s.setReconciler ⟨[w], []⟩).wired .reconciler w.station op

/-- A store in a state. -/
def State.storeIn (s : State) (i : Station) (x : StoreState) : State := s.setStoreState i x

/-- A skim of station 3 under way. -/
def skimming : Engine :=
  { Engine.reset with state := .running, run := some ⟨.skim, 2, 5, 0⟩, station := some 2, grant := .held }

/-- The grant of the bus to a requester whose request is still to be sent. -/
def State.granted (s : State) (r : Requester) : State := s.setBus { s.bus with holder := some r }

/-- A point whose line is UP. -/
def State.lineUp (s : State) (p : PointId) : State :=
  s.updPoint p (fun x => { x with line := .up, watch := some 0, recognised := some [100, 50, 10] })

/-- A full record table, tags 101 to 124, whose records are in a state, opened in slot order. -/
def State.full (s : State) (x : RecState) : State :=
  { s with records := Vector.ofFn (fun j => some { Rec.fresh 5 (BitVec.ofNat 32 j.val) (101 + j.val) .sale 0 with state := x })
           time := 100 }

/-! ## Hypotheses in a form that decide reads -/

theorem holds_of {s : State} {tag : BitVec 16} {i : Slot} {r : Rec} (h : tag ≠ 0#16 ∧ r.tag = tag.toNat ∧ s.slot i = some r
    ∧ ∀ j : Slot, (match s.slot j with | none => true | some q => q.tag != r.tag || j == i) = true) : s.holds tag i r :=
  ⟨h.1, h.2.1, h.2.2.1, fun j q hq ht => by
    have := h.2.2.2 j
    simp only [hq, ht, bne_self_eq_false, Bool.false_or, beq_iff_eq] at this
    exact this⟩

theorem slots_of {s : State} {P : Slot → Rec → Prop} (h : ∀ j : Slot, ∀ r ∈ s.slot j, P j r) :
    ∀ j r, s.slot j = some r → P j r := h

theorem some_of {α : Type} {o : Option α} {P : α → Prop} (h : ∀ a ∈ o, P a) : ∀ a, o = some a → P a := h

theorem some_of_none {α : Type} {o : Option α} {P : α → Prop} (h : o = none) : ∀ a, o = some a → P a := fun _ g =>
  nomatch (h.symm.trans g)

theorem empty_queues {s : State} (h : (s.point .p1).queue = [] ∧ (s.point .p2).queue = []) (p : PointId) :
    (s.point p).queueSettled := by
  have : (s.point p).queue = [] := by cases p; exacts [h.1, h.2]
  simp [Point.queueSettled, this]

theorem points_of {P : PointId → Prop} (h : P .p1 ∧ P .p2) : ∀ p, P p := fun p => by cases p; exacts [h.1, h.2]

theorem engines_of {P : EngineId → Prop} (h : P .p1 ∧ P .p2 ∧ P .m) : ∀ e, P e := fun e => by
  cases e; exacts [h.1, h.2.1, h.2.2]

theorem quiet_of {s : State} (h : (∀ i : Station, ∀ e ∈ [EngineId.p1, .p2, .m], (s.engine e).bandAwaited = some i →
      (s.store i).working = true)
    ∧ (∀ p ∈ [PointId.p1, .p2], (s.engine (pointEngine p)).state = .idle ∨ (s.engine (pointEngine p)).grant = .none
        ∨ (s.engine (pointEngine p)).bandAwaited.isSome = true ∨ s.ejecting (pointEngine p) = true
        ∨ listHas (s.payList (pointEngine p)) (s.workStation (pointEngine p)) = true)
    ∧ ((s.engine .m).state = .running → s.boxStops = false)) : s.enginesQuiet :=
  ⟨fun e i he => h.1 i e (by cases e <;> simp) he, fun p => h.2.1 p (by cases p <;> simp), h.2.2⟩

theorem tags_of {s : State} (h : ∀ i j : Slot, (match s.slot i, s.slot j with
    | some r, some q => r.tag != q.tag || i == j
    | _, _ => true) = true) : s.tagsDistinct := fun i j r q hi hj ht => by
  have := h i j
  simp only [hi, hj, ht, bne_self_eq_false, Bool.false_or, beq_iff_eq] at this
  exact this

theorem pay_of {s : State} (h : (∀ p ∈ [PointId.p1, .p2], ∀ tag ∈ (s.engine (pointEngine p)).record,
      (s.point p).binding = .record tag ∧ ∃ i : Slot, ∃ r ∈ s.slot i, r.tag = tag ∧ r.state = .paying)
    ∧ (s.engine .m).record = none) : s.enginesPay :=
  ⟨fun p tag g => h.1 p (by cases p <;> simp) tag g, h.2⟩

theorem pool_of {s : State} (h : (∀ i j : Slot, (match s.slot i, s.slot j with
      | some r, some q => r.tag != q.tag || i == j
      | _, _ => true) = true)
    ∧ (s.point .p2).binding = .none
    ∧ (∀ i : Slot, ∀ r ∈ s.slot i, (r.list.map Entry.station).Nodup ∧ (∀ en ∈ r.list, 0 < en.items)
      ∧ (r.state ≠ .settled → r.state ≠ .paying → r.list = []))
    ∧ ((∀ p ∈ [PointId.p1, .p2], ∀ tag ∈ (s.engine (pointEngine p)).record,
        (s.point p).binding = .record tag ∧ ∃ i : Slot, ∃ r ∈ s.slot i, r.tag = tag ∧ r.state = .paying)
      ∧ (s.engine .m).record = none)
    ∧ ∀ i, (s.store i).reserved = s.listedAt i ∧ (s.store i).reserved ≤ (s.store i).count) : s.poolAgrees :=
  ⟨tags_of h.1, (fun _ g => nomatch (h.2.1.symm.trans g.2)), h.2.2.1, pay_of h.2.2.2.1, h.2.2.2.2⟩

theorem arbiters_of {s : State} (lists : ∀ i, (s.store i).waiting.Nodup ∧ ((s.store i).holder = none → (s.store i).waiting = []))
    (stands : ∀ i : Station, ∀ e ∈ [EngineId.p1, .p2, .m],
      ((s.store i).holder = some e ↔ (s.engine e).station = some i ∧ (s.engine e).grant = .held)
        ∧ (e ∈ (s.store i).waiting → (s.engine e).station = some i ∧ (s.engine e).grant = .waiting))
    (waits : ∀ e ∈ [EngineId.p1, .p2, .m],
      ((s.engine e).state = .idle ∨ (e ≠ .m ∧ (s.engine e).record = none)
          ∨ (e = .m ∧ (s.engine e).run = none) → (s.engine e).grant = .none)
        ∧ ((s.engine e).grant ≠ .held →
          (s.engine e).outstanding = none ∧ (s.engine e).bandAwaited = none ∧ (s.engine e).needs = none)
        ∧ ((s.engine e).bandAwaited.isSome = true →
          (s.engine e).bandAwaited = (s.engine e).station ∧ (s.engine e).outstanding = none
            ∧ (s.engine e).needs = none)
        ∧ ((s.engine e).outstanding.isSome = true → (s.engine e).needs = none ∨ (s.engine e).needs = some .result))
    (wires : ∀ x ∈ s.bus.exchange, ∀ e ∈ [EngineId.p1, .p2, .m], x.requester = .engine e →
      (x.abandoned = true → x.op ≠ .eject ∧ x.op ≠ .result)
        ∧ (x.abandoned = false → (s.engine e).grant = .held ∧ (s.engine e).bandAwaited = none
          ∧ (x.op = .result ↔ (s.engine e).outstanding.isSome = true))) : s.arbitersSound :=
  have all : ∀ e : EngineId, e ∈ [EngineId.p1, .p2, .m] := fun e => by cases e <;> simp
  ⟨lists, fun i e => stands i e (all e), fun e => waits e (all e), fun x g e => wires x g e (all e)⟩

theorem pool7 : (reserved.paidBy payer).poolAgrees := pool_of (by decide)

/-! ## More states -/

/-- The order paid in full. -/
def paid : Rec := { tendered with state := .paid, paid := 250 }

/-- The order paid in part. -/
def partPaid : Rec := { tendered with state := .partPaid, paid := 100 }

/-- The order VOID, with money in, and with nothing owed. -/
def voided : Rec := { sale with state := .void }
def touched : Rec := { sale with tendered := 1 }
def evenSale : Rec := { tendered with owed := some 0 }

/-- The shop with floors of 4: the first pass may take one item of 100 and none of 50. -/
def kept : State :=
  (shop.updStore 0 (fun r => { r with cfg := { r.cfg with floor := 4 } })).updStore 1
    (fun r => { r with cfg := { r.cfg with floor := 4 } }) |>.storeIn 2 .jammed

/-- Two items of 100 and nothing else. -/
def few : State := ready.stock 0 100 2

/-- Short plans permitted at both points. -/
def State.permitShort (s : State) : State :=
  { s with pointSetup := ⟨{ PointSetup.factory with short := true }, { PointSetup.factory with short := true }⟩ }

/-- A SETTLED refund of 100 that holds the one item of 100. -/
def lender : Rec :=
  { Rec.fresh 5 0 7 .refund 100 with
    state := .settled, planned := some 100, list := [⟨0, 1⟩], settledFrom := some .new, lapseAt := some 18000 }

/-- A refund of 100 that asks for change. -/
def borrower : Rec := Rec.fresh 5 0 8 .refund 100

/-- One item of 100 and two of 50, the 100 held by the lender and the two limited by an items limit of one item for the
borrower, which is bound to P1. -/
def lending : State :=
  { ((((ready.stock 0 100 1).stock 1 50 2).updStore 0 (fun r => { r with reserved := 1 })).with7 lender).setSlot 1
      (some borrower) |>.updPoint .p1 (fun x => { x with binding := .record 8 }) with
    pointSetup := ⟨{ PointSetup.factory with itemsLimit := 1 }, PointSetup.factory⟩ }

/-- Point P1 in FLOAT with a total of 150, its line UP. -/
def State.float (s : State) : State := (s.lineUp .p1).updPoint .p1 (fun x => { x with binding := .float 150 })

/-- A credit that still waits for its route at P1. -/
def State.lastCredit (s : State) : State := s.updPoint .p1 (fun x => { x with queue := [⟨4, 50, 0, none, true⟩] })

/-- The same, with its route outstanding. -/
def State.routing (s : State) : State :=
  (s.lineUp .p1).updPoint .p1 (fun x => { x with queue := [⟨4, 50, 0, none, true⟩], routeOut := some 4 })

/-- The engine with an eject outstanding at station 1. -/
def ejected : Engine := { payer with outstanding := some ⟨0, .cupP1, 0, 0⟩ }

/-- The machine in SETUP-FAULT. -/
def faulty : State := { shop with setupFault := true }

theorem not_paying {s : State} {p : PointId} (h : (s.point p).binding = .none) : ¬s.payingAt p := fun ⟨_, _, _, g, _⟩ =>
  nomatch (h.symm.trans g)

/-- The order interrupted by a reset with 100 paid. -/
def cutShort : Rec := { tendered with state := .interrupted, paid := 100 }

/-- The skim with an eject outstanding, while it runs and while it ends. -/
def skimEjecting : Engine := { skimming with outstanding := some ⟨2, .cashbox, 0, 0⟩ }
def skimEnding : Engine := { skimEjecting with state := .ending }

/-- The engine that has dropped station 1's entry, in a mode, and awaits its band. -/
def awaiting (x : EngineState) (mode : PayMode) : Engine :=
  { payer with state := x, mode := some mode, retry := 2, excluded := 1, bandAwaited := some 0, released := (2, 100) }

/-- The band read that follows a final NONE. -/
def noneRead : Work := engineRead 0 true

/-- The order paid by an engine that awaits that read, with what is left of the list; its BAND request is on the wires. -/
def afterNone (x : Engine) (list : List Entry) : State :=
  ((((shop.updStore 1 (fun r => { r with reserved := itemsAt list 1 })).with7 { paying with list := list }).updPoint .p1
    (fun p => { p with binding := .record 7 })).setEngine .p1 x).updStore 0 (fun r => { r with holder := some .p1 })
    |>.work7 noneRead .band

/-- The order paid with a list, each entry's items reserved, by the engine with an eject outstanding at station 1; its
RESULT request is on the wires. -/
def resulting (list : List Entry) (burst : Nat) : State :=
  (((((shop.updStore 0 (fun r => { r with reserved := itemsAt list 0, burst := burst, holder := some .p1 })).updStore 1
    (fun r => { r with reserved := itemsAt list 1 })).with7 { paying with list := list }).updPoint .p1
    (fun p => { p with binding := .record 7 })).setEngine .p1 ejected).wired (.engine .p1) 0 .result

/-- The same, with engine M waiting for the store. -/
def contested : State :=
  ((resulting [⟨0, 2⟩] 7).setEngine .m { skimming with station := some 0, grant := .waiting }).updStore 0
    (fun r => { r with waiting := [.m] })

/-- A skim of station 1, where a record holds items, with an eject outstanding and its RESULT request on the wires. -/
def skimmed (r : Rec) : State :=
  ((((shop.updStore 0 (fun x => { x with reserved := itemsAt r.list 0, holder := some .m })).with7 r).setEngine .m
    { skimEjecting with run := some ⟨.skim, 0, 5, 0⟩, station := some 0, outstanding := some ⟨0, .cashbox, 0, 0⟩ })).wired
    (.engine .m) 0 .result

/-- A credit queue that is full, whose items wait for one that is being routed or are routed and not applied. -/
def fullQueue (route : Option Route) : List Credit :=
  (List.range 16).map (fun n => ⟨BitVec.ofNat 8 n, 50, 0, route, route.isNone⟩)

/-- Point P1 with its line UP and a queue, an item of it being routed. -/
def State.queued (s : State) (queue : List Credit) (routing : Option Byte) : State :=
  (s.lineUp .p1).updPoint .p1 (fun x => { x with queue := queue, routeOut := routing })

/-- Five items of 100 in station 1 and two in station 4. -/
def twin : State := shop.stock 3 100 2

/-- The refund paid in full. -/
def refunded : Rec := { refund with state := .partPaid, owed := some 250, paid := 250 }

/-- A SETTLED refund of 50 whose one item of 50 the borrower's plan does not need. -/
def elder : Rec := { Rec.fresh 5 0 9 .refund 50 with state := .settled, planned := some 50, list := [⟨1, 1⟩] }

/-! ## WellFormed refuses what cannot arise -/

/-- 0x10 is OPEN's code. -/
theorem test_illFormed_unknown : (.unknown .a 1 0x10 : Instr).wellFormed = false := by decide

/-- A length of 40 is allowed (R184). -/
theorem test_illFormed_length : (.lengthSilence .a 40 : Instr).wellFormed = false := by decide

/-- A cause stands beside its own reset. -/
theorem test_illFormed_power :
    (.power ⟨true, false, false, false⟩ .inPlace ⟨false, false, false⟩ : Instr).wellFormed = false := by
  decide

/-- The same for BROWNOUT. -/
theorem test_illFormed_brownout :
    (.brownout ⟨false, true, false, false⟩ .out ⟨false, false, false⟩ : Instr).wellFormed = false := by
  decide

/-- Tag 0 names no record (R27). -/
theorem test_illFormed_lapse : (.lapse 0 : Instr).wellFormed = false := by decide

/-- The count of an IDENT is one byte (R210). -/
theorem test_illFormed_ident : (.ident .p1 (List.replicate 256 5) [] : Instr).wellFormed = false := by decide +kernel

/-- The fill tally stops at 2,000 (R142). -/
theorem test_illFormed_fill_close : (.fillClose 6 2001 : Instr).wellFormed = false := by decide

/-- The poll has twelve reply slots (R148). -/
theorem test_illFormed_map : (.attentionMap (List.replicate 11 none) : Instr).wellFormed = false := by decide

/-- There is no such station (R1). -/
theorem test_illFormed_bad_op : (.badOp 0 : Instr).wellFormed = false := by decide

/-- There is no such station (R1). -/
theorem test_illFormed_divert : (.divert 13 true : Instr).wellFormed = false := by decide

/-- There is no such station (R1). -/
theorem test_illFormed_divert_fill : (.divertFill 0 true : Instr).wellFormed = false := by decide

/-- There is no such station (R1). -/
theorem test_illFormed_eject : (.eject 14 true : Instr).wellFormed = false := by decide

/-- There is no such station (R1). -/
theorem test_illFormed_result : (.result 15 none : Instr).wellFormed = false := by decide

/-- There is no such station (R1). -/
theorem test_illFormed_status : (.status 0 false false false .unset : Instr).wellFormed = false := by decide

/-- There is no such station (R1). -/
theorem test_illFormed_tally : (.tally 13 0 .unset : Instr).wellFormed = false := by decide

/-- There is no such station (R1). -/
theorem test_illFormed_band : (.band 0 none : Instr).wellFormed = false := by decide

/-- There is no such station (R1). -/
theorem test_illFormed_clear_attn : (.clearAttn 13 : Instr).wellFormed = false := by decide

/-- There is no such station (R1). -/
theorem test_illFormed_window : (.window 0 : Instr).wellFormed = false := by decide

/-- There is no such station (R1). -/
theorem test_illFormed_stage_on : (.stageOn 13 : Instr).wellFormed = false := by decide

/-- There is no such station (R1). -/
theorem test_illFormed_stage_off : (.stageOff 0 : Instr).wellFormed = false := by decide

/-- There is no such station (R1). -/
theorem test_illFormed_fill_open : (.fillOpen 13 true : Instr).wellFormed = false := by decide

/-- There is no such station (R1). -/
theorem test_illFormed_fill_close_station : (.fillClose 0 5 : Instr).wellFormed = false := by decide

/-- There is no such station (R1). -/
theorem test_illFormed_reconciliation :
    (.ejectReconciliation 13 (.tally 0 .unset) : Instr).wellFormed = false := by
  decide

/-! ## Frames, replies and messages written out from R210 -/

/-- OPEN (412, SALE, 1,620): tag 2, kind 1, due 3. -/
theorem test_decode_open :
    decodeFrame .a .landed [0xC3, 0x06, 0x01, 0x10, 0x01, 0x9C, 0x01, 0x00, 0x06, 0x54, 0x07] =
      some (.openRecord .a (.fits ⟨412, 1, 1620⟩)) := by
  decide +kernel

/-- BIND (412, P1): tag 2, point 1. -/
theorem test_decode_bind :
    decodeFrame .a .landed [0xC3, 0x03, 0x01, 0x12, 0x01, 0x9C, 0x01, 0x8C] =
      some (.bind .a (.fits ⟨412, 1⟩)) := by
  decide +kernel

/-- LIST-RECORDS without its optional slot, default 1. -/
theorem test_decode_list_records_default :
    decodeFrame .m .landed [0xC3, 0x00, 0x01, 0x1A, 0x78] = some (.listRecords .m (.fits ⟨1⟩)) := by
  decide +kernel

/-- SETTLE (305): tag 2. -/
theorem test_decode_settle :
    decodeFrame .a .landed [0xC3, 0x02, 0x01, 0x18, 0x01, 0x31, 0x9A] = some (.settle .a (.fits ⟨305⟩)) := by
  decide +kernel

/-- PAY (733): tag 2. -/
theorem test_decode_pay :
    decodeFrame .b .landed [0xC3, 0x02, 0x01, 0x20, 0x02, 0xDD, 0x9F] = some (.pay .b (.fits ⟨733⟩)) := by
  decide +kernel

/-- SKIM-TO (S4, 500): station 1, target 2. -/
theorem test_decode_skim_to :
    decodeFrame .m .landed [0xC3, 0x03, 0x01, 0x23, 0x04, 0x01, 0xF4, 0x3E] =
      some (.skimTo .m (.fits ⟨4, 500⟩)) := by
  decide +kernel

/-- QUERY-POINT (P2) with a part and a first entry. -/
theorem test_decode_query_point_part :
    decodeFrame .b .landed [0xC3, 0x03, 0x01, 0x30, 0x02, 0x03, 0x10, 0x86] =
      some (.queryPoint .b (.fits ⟨2, 3, 16⟩)) := by
  decide +kernel

/-- SET-STORE (S7, capacity 250): bit 3 of the field mask. -/
theorem test_decode_set_store_capacity :
    decodeFrame .m .landed [0xC3, 0x05, 0x01, 0x43, 0x07, 0x00, 0x08, 0x00, 0xFA, 0xC6] =
      some (.setStore .m (.fits ⟨7, none, none, none, some 250, none, none, none, none, none, none, none, false⟩)) := by
  decide +kernel

/-- SET-STORE of present, denomination 50, edge BOTH, staging, and the baseline, which has no bytes, in mask order. -/
theorem test_decode_set_store_order :
    decodeFrame .m .landed [0xC3, 0x08, 0x01, 0x43, 0x07, 0x0D, 0x05, 0x01, 0x00, 0x32, 0x03, 0x01, 0x1B] =
      some (.setStore .m (.fits ⟨7, some 1, none, some 50, none, none, none, none, none, some 3, none, some 1, true⟩)) := by
  decide +kernel

/-- A body shorter than its field mask calls for does not fit. -/
theorem test_decode_set_store_short_body :
    decodeFrame .m .landed [0xC3, 0x04, 0x01, 0x43, 0x07, 0x00, 0x08, 0xFA, 0x54] =
      some (.setStore .m .misfit) := by
  decide +kernel

/-- REFILL-BEGIN (S6): station 1. -/
theorem test_decode_refill_begin :
    decodeFrame .m .landed [0xC3, 0x01, 0x01, 0x44, 0x06, 0xB1] = some (.refillBegin .m (.fits ⟨6⟩)) := by
  decide +kernel

/-- CLEAR-FAULT of P1's bank: bank kind 2, number 1. -/
theorem test_decode_clear_fault :
    decodeFrame .m .landed [0xC3, 0x02, 0x01, 0x52, 0x02, 0x01, 0x34] =
      some (.clearFault .m (.fits ⟨2, 1⟩)) := by
  decide +kernel

/-- CLEAR-EVENTS (STORE-LEVEL, STORE-FAULT): bits 8 and 9. -/
theorem test_decode_clear_events :
    decodeFrame .a .landed [0xC3, 0x02, 0x01, 0x61, 0x03, 0x00, 0x7A] =
      some (.clearEvents .a (.fits ⟨0x0300⟩)) := by
  decide +kernel

/-- SET-SYSTEM of hold time 240 and cashbox capacity 2,000: bits 1 and 2 of the field mask. -/
theorem test_decode_set_system :
    decodeFrame .m .landed [0xC3, 0x05, 0x01, 0x71, 0x06, 0x00, 0xF0, 0x07, 0xD0, 0xD3] =
      some (.setSystem .m (.fits ⟨none, some 240, some 2000, none, none⟩)) := by
  decide +kernel

/-- SAVE-SETUP without a body. -/
theorem test_decode_save_setup :
    decodeFrame .m .landed [0xC3, 0x00, 0x01, 0x72, 0x67] = some (.saveSetup .m (.fits ⟨⟩) .landed) := by
  decide +kernel

/-- QUALIFIER AS-POINT P2. -/
theorem test_decode_as_point :
    decodeFrame .a .landed [0xC3, 0x01, 0x02, 0x01, 0x02, 0x0A] = some (.asPoint .a (.fits ⟨2⟩)) := by
  decide +kernel

/-- QUALIFIER QUIET. -/
theorem test_decode_quiet :
    decodeFrame .m .landed [0xC3, 0x00, 0x02, 0x02, 0x0F] = some (.quiet .m (.fits ⟨⟩)) := by
  decide +kernel

/-- 0x1B stands in no row of R210's command table. -/
theorem test_decode_reserved_code :
    decodeFrame .a .landed [0xC3, 0x00, 0x01, 0x1B, 0x7F] = some (.unknown .a 1 0x1B) := by
  decide +kernel

/-- A REPLY frame has no meaning as a command. -/
theorem test_decode_reply_kind :
    decodeFrame .a .landed [0xC3, 0x00, 0x03, 0x10, 0x64] = some (.unknown .a 3 0x10) := by
  decide +kernel

/-- The SETTLE frame with one bit of its check wrong. -/
theorem test_decode_bad_check :
    decodeFrame .a .landed [0xC3, 0x02, 0x01, 0x18, 0x01, 0x31, 0x9B] = some (.check .a 0x18) := by
  decide +kernel

/-- R184: a length byte above 40. -/
theorem test_decode_long_length : decodeFrame .a .landed [0xC3, 41] = some (.lengthSilence .a 41) := by decide +kernel

/-- S4's RESULT reply: TAKEN, DONE, outcome ITEM. -/
theorem test_decode_result_item :
    decodeReply false 3 .result [0x45, 0xC0, 0x01, 0x87] = some (.result 4 (some (.item, false))) := by
  decide +kernel

/-- S4's RESULT reply: NONE with the held flag. -/
theorem test_decode_result_none_held :
    decodeReply false 3 .result [0x45, 0xC0, 0x83, 0x00] = some (.result 4 (some (.none, true))) := by
  decide +kernel

/-- S4's RESULT reply without DONE: PENDING. -/
theorem test_decode_result_pending :
    decodeReply false 3 .result [0x45, 0x80, 0x44] = some (.result 4 none) := by
  decide +kernel

/-- S4's STATUS reply in start-up: clean, held set, gate cup P1. -/
theorem test_decode_status_held :
    decodeReply true 3 .status [0x41, 0xC0, 0x20, 0x01, 0x78] =
      some (.ejectReconciliation 4 (.status false false true .cupP1)) := by
  decide +kernel

/-- S2's TALLY reply: 203, gate cup P1. -/
theorem test_decode_tally :
    decodeReply false 1 .tally [0x26, 0xC0, 0xCB, 0x01, 0x9B] = some (.tally 2 203 .cupP1) := by
  decide +kernel

/-- S2's BAND reply: LOW. -/
theorem test_decode_band :
    decodeReply false 1 .band [0x22, 0xC0, 0x02, 0x5D] = some (.band 2 (some .low)) := by
  decide +kernel

/-- S6's FILL-CLOSE reply: fill tally 498. -/
theorem test_decode_fill_close :
    decodeReply false 5 .fillClose [0x68, 0xC0, 0x01, 0xF2, 0x7C] = some (.fillClose 6 498) := by
  decide +kernel

/-- S6's reply to FILL-OPEN without TAKEN. -/
theorem test_decode_bad_op : decodeReply false 5 .fillOpen [0x67, 0x00, 0x49] = some (.badOp 6) := by decide +kernel

/-- A reply whose header names S7. -/
theorem test_decode_foreign_reply : decodeReply false 5 .fillOpen [0x77, 0xC0, 0x50] = none := by decide +kernel

/-- ACCEPTED #41, 500. -/
theorem test_decode_accepted :
    decodeAcceptor .p1 [0xC3, 0x04, 0x05, 0x29, 0x00, 0x01, 0xF4, 0x1B] = some (.accepted .p1 41 500) := by
  decide +kernel

/-- MASK-HELD of the first two denominations. -/
theorem test_decode_mask_held :
    decodeAcceptor .p2 [0xC3, 0x02, 0x04, 0x00, 0x03, 0x4E] = some (.maskHeld .p2 0x0003) := by
  decide +kernel

/-- IDENT of two denominations and one held item. -/
theorem test_decode_ident :
    decodeAcceptor .p1 [0xC3, 0x09, 0x02, 0x02, 0x01, 0xF4, 0x00, 0x32, 0x01, 0x07, 0x00, 0x32, 0xDD] =
      some (.ident .p1 [500, 50] [(7, 50)]) := by
  decide +kernel

/-- The ACCEPTED message with one bit of its check wrong. -/
theorem test_decode_acceptor_bad_check :
    decodeAcceptor .p1 [0xC3, 0x04, 0x05, 0x29, 0x00, 0x01, 0xF4, 0x9B] = some (.acceptorBadCheck .p1) := by
  decide +kernel

/-! ## The worked examples of the manual, one step each -/

/-- The command answers a next state of which a test holds. -/
def State.gives (s : State) (i : Instr) (test : State → Bool) : Bool :=
  match exec i s with
  | .next t => test t
  | .fault _ | .refused _ => false

/-- The reply a port holds, as its status and contents. -/
def State.answered (s : State) (p : PortId) : Option (Status × List Byte) :=
  (s.port p).reply.map (fun r => (r.status, r.contents))

/-- No event latched on any port. -/
def State.hushed (s : State) : State :=
  { s with ports := ⟨{ s.ports.first with latched := 0 }, { s.ports.second with latched := 0 },
    { s.ports.third with latched := 0 }⟩ }

/-- A fitted store with low, high, route limit and capacity, of a denomination, with n items. -/
def State.stocked (s : State) (i : Station) (d n low high route capacity : Nat) : State :=
  (s.stock i d n).updStore i (fun r =>
    { r with cfg := { r.cfg with low := low, high := high, routeLimit := route, capacity := capacity } }.levelled)

/-- A fitted store with a floor, some items of it reserved. -/
def State.kept (s : State) (i : Station) (d n floor reserved : Nat) : State :=
  (s.stock i d n).updStore i (fun r => { r with cfg := { r.cfg with floor := floor }, reserved := reserved })

/-- Chapter 1, threshold clamping: S7 DISABLED with count 120. -/
def clamping : State :=
  (ready.hushed.stocked 6 10 120 40 300 380 400).updStore 6 (fun r =>
    { r with state := .disabled, cfg := { r.cfg with floor := 25 } })

/-- The five figures of S7 that the example follows. -/
def State.chain (s : State) : Nat × Nat × Nat × Nat × Nat :=
  let c := (s.store 6).cfg
  (c.capacity, c.routeLimit, c.high, c.low, c.floor)

/-- SET-STORE (S7, capacity 250) clamps route limit and high to 250. -/
theorem test_setStore_clamps_chain :
    clamping.gives (.setStore .m (.fits ⟨7, none, none, none, some 250, none, none, none, none, none, none, none,
      false⟩)) (fun t => t.chain = (250, 250, 250, 40, 25)) := by
  decide +kernel

/-- S7 after SET-STORE (capacity 250) and SET-STORE (low 260). -/
def clamped : State :=
  clamping.updStore 6 (fun r =>
    { r with cfg := { r.cfg with capacity := 250, routeLimit := 250, high := 250, low := 249 } }.levelled)

/-- SET-STORE (S7, capacity 100) with count 120: capacity, route limit and high 120, low 119, LOW clear, HIGH and NEAR-FULL
set, STORE-LEVEL latched. -/
theorem test_setStore_capacity_rises_to_count :
    clamped.gives (.setStore .m (.fits ⟨7, none, none, none, some 100, none, none, none, none, none, none, none,
      false⟩)) (fun t => t.chain = (120, 120, 120, 119, 25) ∧ (t.store 6).low = false ∧ (t.store 6).high = true ∧
      (t.store 6).nearFull = true ∧ (t.port .a).latched = Event.storeLevel.mask) := by
  decide +kernel

/-- Chapter 2, reclaiming: slots 7, 15 and 20 hold 118, 96 and 131, final since 1,204,400, 1,198,250 and 1,209,900. -/
def fullTable : State :=
  let final (x : RecState) (since : Time) (tag : Nat) : Option Rec :=
    some { Rec.fresh 5 0 tag .sale 0 with state := x, stateSince := since }
  let s := ((ready.full .opened).setSlot 6 (final .paid 1204400 118)).setSlot 14 (final .void 1198250 96)
  (s.setSlot 19 (final .paid 1209900 131)).updPoint .p2 (fun x => { x with binding := .record 118 }) |>.setTime 1230000

/-- OPEN (501, SALE, 845) takes slot 15 from tag 96. -/
theorem test_open_reclaims_oldest :
    fullTable.gives (.openRecord .a (.fits ⟨501, 1, 845⟩)) (fun t => t.answered .a = some (.done, [15, 0, 96]) ∧
      (t.slot 14).map Rec.tag = some 501 ∧ (t.port .b).latched.getLsbD 7 = true) := by
  decide +kernel

/-- Chapter 2, one car: a credit of 500 on 1,500 against a due of 1,620 gives owed 380. -/
theorem test_credit_gives_owed :
    ((ready.lineUp .p1).at7 { sale with due := 1620, tendered := 1500, state := .tendering }).gives (.accepted .p1 9
      500) (fun t => (t.slot 0).map (fun r => (r.state, r.tendered, r.owed)) = some (.tendering,
      2000, some 380)) := by
  decide +kernel

/-- R51's table. -/
theorem test_rounding_table :
    [(5, 382), (5, 383), (10, 385), (2, 7), (1, 7), (5, 99998), (10, 99995), (2, 99999)].map (fun x => roundTo x.1 x.2)
      = [380, 385, 390, 8, 7, 99995, 99990, 99998] := by decide

/-- A SALE record bound to P1 with a remaining. -/
def asking (tag remaining : Nat) : Rec :=
  { Rec.fresh 5 0 tag .sale 100 with state := .tendering, tendered := 100 + remaining, owed := some remaining }

/-- What a SETTLE leaves: the record's state, planned, shortfall and list. -/
def State.plan (s : State) : Option (RecState × Option Nat × Option Nat × List Entry) :=
  (s.slot 0).map (fun r => (r.state, r.planned, r.shortfall, r.list))

/-- Chapter 3, case 1: 380 from 200: 1, 100: 1, 20: 3, 10: 3, 5: 20. -/
def case1 : State :=
  ((((((ready.kept 0 200 3 0 2).kept 1 100 4 0 3).kept 2 50 0 0 0).kept 3 20 5 2 0).kept 4 10 5 2 0).kept 5 10 2 2 0).kept
    6 5 30 10 0 |>.at7 (asking 7 380)

theorem test_settle_case1 :
    case1.gives (.settle .a (.fits ⟨7⟩)) (fun t => t.plan = some (.settled, some 380, none, [⟨0, 1⟩, ⟨1, 1⟩, ⟨3, 3⟩,
      ⟨4, 2⟩]) ∧ (t.store 3).reserved = 3 ∧ (t.slot 0).bind Rec.lapseAt = some 18000) := by
  decide +kernel

/-- Chapter 3, case 2: one 50 tried first, then three 20s. -/
theorem test_split_backtracks : chosenSplit [(50, 1), (20, 3)] 40 60 = some [0, 3] := by decide

/-- The note to case 3: 50 and five 2s, although three 20s would be fewer. -/
theorem test_split_largest_first : chosenSplit [(50, 1), (20, 3), (2, 5)] 40 60 = some [1, 0, 5] := by decide

/-- Chapter 3, case 3: a limit of 5 items opens the second pass. -/
theorem test_settle_case3 :
    ({ ((ready.kept 4 10 2 2 0).kept 6 5 30 10 0).with7 (asking 7 30) |>.updPoint .p2 (fun x =>
      { x with binding := .record 7 }) with
      pointSetup := ⟨PointSetup.factory, { PointSetup.factory with itemsLimit := 5 }⟩ } : State).gives (.settle .m
      (.fits ⟨7⟩)) (fun t => t.plan = some (.settled, some 30, none, [⟨4, 2⟩, ⟨6, 2⟩])) := by
  decide +kernel

/-- Chapter 3, case 4: 35 from one 20 and one 10. -/
def case4 : State := ((ready.kept 2 20 1 1 0).kept 3 10 1 0 0).at7 (asking 7 35)

theorem test_settle_case4 :
    case4.permitShort.gives (.settle .a (.fits ⟨7⟩)) (fun t => t.plan = some (.settled, some 30, some 5, [⟨2, 1⟩, ⟨3,
      1⟩])) := by
  decide +kernel

/-- The same without short plans: NO-CHANGE with 35 and 30. -/
theorem test_settle_case4_refused :
    case4.gives (.settle .a (.fits ⟨7⟩)) (fun t => t.answered .a = some (.noChange, [0, 0, 35, 0, 0, 30]) ∧ (t.store
      2).reserved = 0) := by
  decide +kernel

/-- Chapter 3, case 6: the short plan made exact when a 5 arrives. -/
theorem test_settle_case6 :
    (((ready.kept 2 20 1 1 1).kept 3 10 1 0 1).kept 8 5 1 0 0 |>.at7
      { asking 7 35 with
      state := .settled, planned := some 30, shortfall := some 5, list := [⟨2, 1⟩, ⟨3, 1⟩], settledFrom := some .new
      }).gives (.settle .b (.fits ⟨7⟩)) (fun t => t.plan = some (.settled, some 35, none, [⟨2, 1⟩, ⟨3, 1⟩, ⟨8, 1⟩]) ∧
      (t.store 2).reserved = 1 ∧ (t.store 8).reserved = 1) := by
  decide +kernel

/-- R80: engine M awaits the band of station 1 after a NONE, and P1 (tag 7, HALT) and P2 (tag 8) wait there with one item
each. -/
def cutWhileWaiting : State :=
  let s := ((ready.stock 0 100 2).stock 1 50 4).at7
    { paying with list := [⟨0, 1⟩, ⟨1, 1⟩], planned := some 150, stateSince := 9 }
  let s := (s.setSlot 1 (some { paying with tag := 8, list := [⟨0, 1⟩], planned := some 100 })).updPoint .p2
    (fun x => { x with binding := .record 8 })
  let waits (tag : Nat) : Engine := { payer with record := some tag, mode := some .halt, grant := .waiting }
  let s := ((s.setEngine .p1 (waits 7)).setEngine .p2 (waits 8)).setEngine .m
    { skimming with run := some ⟨.skim, 0, 5, 0⟩, station := some 0, bandAwaited := some 0 }
  let s := (s.updStore 1 (fun r => { r with reserved := 1 })).updStore 0 (fun r =>
    { r with cfg := { r.cfg with low := 1 }, reserved := 2, holder := some .m, waiting := [.p1, .p2] })
  (s.setTime 10).work7 (engineRead 0 true) .band

/-- The band LOW cuts P1's entry, the younger, to nothing and jams the store: P1 walks on under HALT without excluding the
store, while P2, whose entry is still there, ends its payout. -/
theorem test_cut_engine_walks_on_under_halt :
    cutWhileWaiting.gives (.band 1 (some .low)) (fun t => (t.store 0).state = .jammed ∧ (t.store 0).waiting = [] ∧
      (t.engine .p1).state = .running ∧ (t.engine .p1).station = some 1 ∧ (t.engine .p1).excluded = 0#12 ∧
      (t.store 1).holder = some .p1 ∧ (t.engine .p2).state = .idle ∧ (t.slot 1).map Rec.state = some .partPaid) := by
  decide +kernel

/-- R61: two tubes with 9 and 3 items, asked for 8. -/
theorem test_allocation_evens_tubes :
    allocate [⟨0, 10, 9⟩, ⟨1, 10, 3⟩] 10 8 = [⟨0, 7⟩, ⟨1, 1⟩] := by decide

/-- Chapter 4, eviction: S5 of low 2, high 10, route limit 30, count 6, reserved 6, at 52,000, its band about to be read. -/
def evicting : State :=
  let s := ((ready.hushed.stocked 4 10 6 2 10 30 100).kept 1 100 3 0 1).updStore 4 (fun r => { r with reserved := 6 })
  let holder (tag : Nat) (x : RecState) (since : Time) (list : List Entry) (planned : Nat) (from_ : SettledFrom) : Option Rec :=
    some { Rec.fresh 5 0 tag .sale 0 with
      state := x, stateSince := since, list := list, planned := some planned, settledFrom := some from_ }
  let s := ((s.setSlot 3 (holder 140 .settled 41000 [⟨1, 1⟩, ⟨4, 2⟩] 120 .new)).setSlot 10
    (holder 162 .settled 46500 [⟨4, 1⟩] 10 .partPaid)).setSlot 8 (holder 171 .paying 48200 [⟨4, 3⟩] 70 .new)
  ((s.updPoint .p2 (fun x => { x with binding := .record 140 })).setTime 52000).work7
    (newWork 4 .service [.band, .clearAttn]) .band

/-- The band LOW evicts 162, then 140, then cuts 171 from three items to two. -/
theorem test_band_evicts_three_holders :
    evicting.gives (.band 5 (some .low)) (fun t => (t.store 4).count = 2 ∧ (t.store 4).reserved = 2 ∧ (t.store
      1).reserved = 0 ∧ [3, 10, 8].map (fun j => (t.slot j).map (fun r => (r.state, r.planned))) = [some (.tendering,
      none), some (.partPaid, none), some (.paying, some 60)]) := by
  decide +kernel

/-- Chapter 4, borrowing: S1 50, S2 20, S3 10s; tag 210 holds the 50; tag 305 owes 70 under a limit of 4 items. -/
def borrowing (tens : Nat) : State :=
  let s := ((ready.kept 0 50 1 0 1).kept 1 20 1 0 0).kept 2 10 tens 0 0
  let s := (s.setSlot 2 (some { Rec.fresh 5 0 210 .refund 50 with
    state := .settled, stateSince := 40000, planned := some 50, list := [⟨0, 1⟩], settledFrom := some .new
    lapseAt := some 58000 })).setSlot 7 (some { asking 305 70 with due := 1430, tendered := 1500 })
  { (s.updPoint .p1 (fun x => { x with binding := .record 305 })).setTime 45000 with
    pointSetup := ⟨{ PointSetup.factory with itemsLimit := 4, short := true }, PointSetup.factory⟩ }

/-- With four 10s the trial fails, and the short plan is 50. -/
theorem test_settle_borrowing_fails :
    (borrowing 4).gives (.settle .a (.fits ⟨305⟩)) (fun t => [7, 2].map (fun j => (t.slot j).map (fun r =>
      (r.planned, r.shortfall, r.list))) = [some (some 50, some 20, [⟨1, 1⟩, ⟨2, 3⟩]), some (some 50, none, [⟨0,
      1⟩])]) := by
  decide +kernel

/-- With five 10s tag 305 takes the 50, and tag 210 is planned again from the 10s. -/
theorem test_settle_borrowing_succeeds :
    (borrowing 5).gives (.settle .a (.fits ⟨305⟩)) (fun t => [7, 2].map (fun j => (t.slot j).map (fun r =>
      (r.planned, r.list, r.pinned))) = [some (some 70, [⟨0, 1⟩, ⟨1, 1⟩], false), some (some 50, [⟨2, 5⟩], true)] ∧
      [0, 1, 2].map (fun i => (t.store i).reserved) = [1, 1, 5]) := by
  decide +kernel

/-- Chapter 5: tag 620 of due 730 with 750 tendered is PAYING when 50 arrives: it waits unapplied. -/
theorem test_accepted_waits_while_paying :
    ((ready.lineUp .p1).at7 { sale with due := 730, tendered := 750, owed := some 20, state := .paying }).gives
      (.accepted .p1 44 50) (fun t => (t.slot 0).map Rec.tendered = some 750 ∧ (t.point .p1).queue.map (fun c =>
      (c.item, c.denomination, c.applied)) = [(44, 50, false)]) := by
  decide +kernel

/-- Chapter 6: engine P2 asks for the result of an eject from a store; list, planned and delivered as the example gives. -/
def substituting (i : Station) (list : List Entry) (delivered paidSoFar : Nat) (x : Engine) : State :=
  let s := ((((ready.kept 1 100 5 0 0).kept 2 50 4 0 0).kept 3 20 10 4 (itemsAt list 3)).kept 4 10 8 3 (itemsAt list 4)).kept
    5 10 3 3 0
  let r := { asking 7 170 with
    state := .paying, planned := some 170, list := list, settledFrom := some .new, delivered := some delivered
    paid := paidSoFar }
  let s := { ((s.with7 r).updPoint .p2 (fun y => { y with binding := .record 7 })).setEngine .p2 x with
    pointSetup := ⟨PointSetup.factory, { PointSetup.factory with mode := .substitute }⟩ }
  s.updStore i (fun y => { y with holder := some .p2 })

/-- Engine P2 at a store. -/
def walker (i : Station) : Engine :=
  { Engine.reset with
    state := .running, record := some 7, mode := some .substitute, station := some i, grant := .held, planItems := 1 }

/-- S3's band is about to be read after its NONE; its item is released, planned is 120. -/
def jammedAt3 : State :=
  let s := substituting 2 [⟨3, 1⟩] 100 100
    { walker 2 with bandAwaited := some 2, excluded := stationBit 2, released := (1, 50) }
  let s := (s.updRec 0 (fun r => { r with planned := some 120 })).updStore 2 (fun y =>
    { y with cfg := { y.cfg with low := 1, high := 10, routeLimit := 20 } }.levelled)
  s.work7 (engineRead 2 true) .band

/-- The band MID: S3 JAMMED, and 50 substituted as two 20s and a 10. -/
theorem test_band_mid_after_none_substitutes :
    jammedAt3.gives (.band 3 (some .mid)) (fun t => t.plan = some (.paying, some 170, none, [⟨3, 3⟩, ⟨4, 1⟩]) ∧
      (t.store 2).state = .jammed ∧ (t.store 3).reserved = 3 ∧ (t.store 4).reserved = 1 ∧ (t.engine .p2).station =
      some 3) := by
  decide +kernel

/-- The DOUBLE from S5 against one entry item: delivered 170, paid 180, count 6, and the record PAID. -/
theorem test_result_double_ends_payout :
    ((substituting 4 [⟨4, 1⟩] 160 160 { walker 4 with outstanding := some ⟨4, .cupP2, 0, 0⟩, planItems := 4 }).wired
      (.engine .p2) 4 .result).gives (.result 5 (some (.double, false))) (fun t => (t.slot 0).map (fun r => (r.state,
      r.paid, r.remaining, r.overpaid)) = some (.paid, 180, some 0, 10) ∧ (t.store 4).count = 6 ∧ (t.store
      4).reserved = 0 ∧ (t.engine .p2).state = .idle) := by
  decide +kernel

/-- Chapter 7: engine P2 holds the bus for its DIVERT to S2; the poller, the reconciler with a band read of S5, intake
P1 and engine P1 wait. -/
def roundOfSeven : State :=
  let s := (ready.kept 1 100 5 0 1).with7 { asking 7 100 with
    state := .paying, planned := some 100, list := [⟨1, 1⟩], settledFrom := some .new, delivered := some 0 }
  let s := (s.updPoint .p2 (fun x => { x with binding := .record 7 })).setEngine .p2 { walker 1 with needs := some .divert }
  (((s.updStore 1 (fun y => { y with holder := some .p2 })).place (engineRead 4 false)).setBus
    { Bus.reset with
      holder := some (.engine .p2), waiting := [.poller, .reconciler, .intake .p1, .engine .p1]
      exchange := some ⟨.engine .p2, 1, .divert .cupP2, 3, false, false⟩ })

/-- The DIVERT ends: the waiting set becomes the round in the fixed order, and engine P2 asks anew for its EJECT. -/
theorem test_divert_starts_round :
    roundOfSeven.gives (.divert 2 true) (fun t => t.bus.holder = some (.engine .p1) ∧ t.bus.round = [.intake .p1,
      .reconciler, .poller] ∧ t.bus.waiting = [.engine .p2] ∧ (t.engine .p2).needs = some .eject) := by
  decide +kernel

/-- Chapter 8: S6 in REFILL with 40 items, its FILL-CLOSE under way, with QUIET or without. -/
def refilling (quiet : Bool) : State :=
  ((ready.hushed.stocked 5 10 40 60 400 450 500).storeIn 5 .refill).work7
    (newWork 5 (.refillEnd quiet) [.fillClose]) .fillClose |>.updPort .m (fun x => { x with replyOwed := some .refillEnd })

/-- A fill tally of 498: count 500, in-tally 498, HIGH and NEAR-FULL; the reply gives 498, 500 and 38. -/
theorem test_fillClose_overflows :
    (refilling false).gives (.fillClose 6 498) (fun t => (t.store 5).count = 500 ∧ (t.store 5).inTally = 498 ∧
      (t.store 5).low = false ∧ (t.store 5).high = true ∧ (t.store 5).nearFull = true ∧ (t.store 5).unverified = true
      ∧ t.answered .m = some (.done, [1, 0xF2, 1, 0xF4, 0, 38])) := by
  decide +kernel

/-- Chapter 10: under QUIET, Ports A and B latch STORE-LEVEL and STORE-FAULT, and Port M nothing. -/
theorem test_fillClose_quiet :
    (refilling true).gives (.fillClose 6 498) (fun t => (t.port .a).latched = 0x0300 ∧ (t.port .b).latched = 0x0300 ∧
      (t.port .m).latched = 0) := by
  decide +kernel

/-- Chapter 8: the box drawn with 1,350 items: REMOVED, its figures kept, CASHBOX-REMOVED latched. -/
theorem test_box_drawn :
    (ready.hushed.setCashbox ⟨1350, 31230, 0, 0, .inPlace, .nearFull⟩).gives (.cashboxPresence .out) (fun t =>
      t.cashbox.state = .removed ∧ t.cashbox.count = 1350 ∧ t.cashbox.value = 31230 ∧ (t.port .a).latched =
      Event.cashboxRemoved.mask) := by
  decide +kernel

/-- Chapter 8: an empty box inserted: PRESENT-OK with count 0 and the loose item kept. -/
theorem test_box_inserted :
    (ready.setCashbox ⟨1350, 31230, 1, 500, .out, .removed⟩).gives (.cashboxPresence .inPlace) (fun t => t.cashbox =
      ⟨0, 0, 1, 500, .inPlace, .ok⟩) := by
  decide +kernel

/-- Chapter 9: S2 of low 5, high 30, route limit 45, capacity 60, count 12, tally last seen 201; tags 250 and 266 hold
three and four items. -/
def knocked : State :=
  let holder (tag : Nat) (since : Time) (n : Nat) : Option Rec :=
    some { Rec.fresh 5 0 tag .sale 0 with
      state := .settled, stateSince := since, list := [⟨1, n⟩], planned := some (n * 100), settledFrom := some .new }
  let s := (ready.hushed.stocked 1 100 12 5 30 45 60).updStore 1 (fun r => { r with reserved := 7, moduleTally := 201 })
  ((s.setSlot 0 (holder 250 30000 3)).setSlot 1 (holder 266 31500 4)).setTime 33000

/-- TALLY 203: two stray exits: count 10, STRAY-EXIT with expected 201 and observed 203. -/
theorem test_tally_stray_exits :
    (knocked.work7 (newWork 1 .service [.tally, .band, .clearAttn]) .tally).gives (.tally 2 203 .cupP1) (fun t =>
      (t.store 1).count = 10 ∧ (t.store 1).outTally = 2 ∧ (t.storeBank 1).capture.map (fun c => (c.code, c.expected,
      c.observed, c.extra)) = some (.strayExit, some 201, some 203, some 1)) := by
  decide +kernel

/-- BAND LOW at count 10: count 5, tag 266 released, tag 250 kept, STORE-FAULT, STORE-LEVEL and RESERVATION-LOST latched. -/
theorem test_band_low_clamps :
    ((knocked.updStore 1 (fun r => { r with count := 10 })).work7 (newWork 1 .service [.band, .clearAttn])
      .band).gives (.band 2 (some .low)) (fun t => (t.store 1).count = 5 ∧ (t.store 1).reserved = 3 ∧ (t.slot 0).map
      Rec.state = some .settled ∧ (t.slot 1).map Rec.state = some .opened ∧ (t.port .b).latched = 0x0320) := by
  decide +kernel

/-- Chapter 10: AS-POINT P1 replaces AS-POINT P2 and stands beside QUIET; a bad check discards both. -/
theorem test_asPoint_replaces :
    (shop.updPort .a (fun x => { x with asPoint := some .p2, quiet := true })).gives (.asPoint .a (.fits ⟨1⟩)) (fun t
      => (t.port .a).asPoint = some .p1 ∧ (t.port .a).quiet = true) := by
  decide +kernel

theorem test_check_discards_qualifiers :
    (shop.updPort .a (fun x => { x with asPoint := some .p1, quiet := true })).gives (.check .a 0x20) (fun t =>
      (t.port .a).asPoint = none ∧ (t.port .a).quiet = false ∧ t.answered .a = some (.check, [])) := by
  decide +kernel

/-- PAY (733) on Port A of a record SETTLED and bound to P2: POINT without AS-POINT P2, STARTED with it. -/
def elsewhere : State :=
  (reserved.with7 { settled with tag := 733 }).updPoint .p2 (fun x => { x with binding := .record 733 })

theorem test_pay_needs_asPoint :
    elsewhere.gives (.pay .a (.fits ⟨733⟩)) (fun t => t.answered .a = some (.point, []) ∧ (t.engine .p2).state =
      .idle) := by
  decide +kernel

theorem test_pay_asPoint :
    (elsewhere.updPort .a (fun x => { x with asPoint := some .p2 })).gives (.pay .a (.fits ⟨733⟩)) (fun t =>
      t.answered .a = some (.started, [2, 0, 0, 250, 3]) ∧ (t.engine .p2).state = .running ∧ (t.port .a).asPoint =
      none) := by
  decide +kernel

/-- CLEAR-EVENTS (STORE-LEVEL, STORE-FAULT): both gone while no store is JAMMED or OFFLINE; with S6 JAMMED, STORE-FAULT
comes back in the reply. -/
theorem test_clearEvents :
    (ready.updPort .a (fun x => { x with latched := 0x0300 })).gives (.clearEvents .a (.fits ⟨0x0300⟩)) (fun t =>
      t.answered .a = some (.done, [0, 0])) := by
  decide +kernel

theorem test_clearEvents_level_comes_back :
    ((ready.stock 5 10 40).storeIn 5 .jammed |>.updPort .a (fun x => { x with latched := 0x0300 })).gives
      (.clearEvents .a (.fits ⟨0x0300⟩)) (fun t => t.answered .a = some (.done, [2, 0])) := by
  decide +kernel

/-- Chapter 11: a PIN reset while tag 508 is PAYING: INTERRUPTED, its list released, reserved 2 left for tag 512. -/
theorem test_pin_interrupts :
    let r := Rec.interrupted 612400 { asking 7 90 with
      state := .paying, planned := some 90, delivered := some 70, paid := 70, list := [⟨3, 1⟩], settledFrom := some .new }
    let other := Rec.interrupted 612400 { asking 512 40 with
      state := .settled, planned := some 40, list := [⟨3, 2⟩], settledFrom := some .new, lapseAt := some 618000 }
    (r.state, r.paid, r.remaining, r.list) = (.interrupted, 70, some 20, []) ∧ other.state = .settled
      ∧ reservedBy (((Vector.replicate 24 none).set 0 (some r)).set 1 (some other)) 3 = 2 := by decide +kernel

/-- Start-up reads the TALLY of a store with an eject record. -/
def State.reconciling (s : State) (i : Station) (seen : Byte) (r : EjectRecord) : State :=
  ((s.updStore i (fun x => { x with moduleTally := seen, ejectRecord := some r, unverified := true })).setStartUp
    ⟨false, false, 0, false⟩).work7 (newWork i .startEject [.tally]) .tally

/-- S4's TALLY 46 against 45: count 13, and tag 508's paid 90 with remaining 0. -/
theorem test_startUp_tally_credits_record :
    (((ready.kept 3 20 14 0 2).at7 { asking 7 90 with state := .interrupted, paid := 70 }).reconciling 3 45
      ⟨.p1, .cupP1⟩).gives (.ejectReconciliation 4 (.tally 46 .cupP1)) (fun t => (t.store 3).count = 13 ∧ (t.store
      3).outTally = 1 ∧ (t.store 3).moduleTally = 46 ∧ (t.slot 0).map (fun r => (r.state, r.paid, r.remaining)) =
      some (.interrupted, 90, some 0)) := by
  decide +kernel

/-- S9's TALLY 0 against 255: one exit of 200 into the cashbox, 403 items worth 62,100. -/
theorem test_startUp_tally_credits_cashbox :
    (((ready.kept 8 200 31 0 0).setCashbox ⟨402, 61900, 0, 0, .inPlace, .ok⟩).reconciling 8 255 ⟨.m, .cashbox⟩).gives
      (.ejectReconciliation 9 (.tally 0 .cashbox)) (fun t => (t.store 8).count = 30 ∧ (t.store 8).moduleTally = 0 ∧
      t.cashbox.count = 403 ∧ t.cashbox.value = 62100) := by
  decide +kernel

/-- R64: SETTLE of an INTERRUPTED SALE record with remaining 0 takes it to PAID. -/
theorem test_settle_of_nothing :
    (ready.at7 { asking 7 90 with state := .interrupted, paid := 90 }).gives (.settle .a (.fits ⟨7⟩)) (fun t =>
      (t.slot 0).map Rec.state = some .paid) := by
  decide +kernel

/-- R210, R186: OPEN with a kind code outside the table is RANGE at step 6, and no reply is owed. -/
theorem test_open_undefined_kind :
    shop.gives (.openRecord .a (.fits ⟨8, 3, 100⟩)) (fun t => t.answered .a = some (.range, []) ∧ (t.port
      .a).replyOwed = none) := by
  decide +kernel

/-- R183: a frame that a reply being sent meets is discarded. -/
theorem test_frame_while_replying :
    (shop.respond .a 0x20 .range []).gives (.check .a 0x21) (fun t => t.answered .a = some (.range, [])) := by
  decide +kernel

/-- R211, R117: a DOUBLE that takes the entry's item and leaves nothing for the other one changes the list once. -/
theorem test_double_changes_list_once :
    ((((ready.stock 0 100 2).at7 { paying with list := [⟨0, 2⟩] }).setEngine .p1 ejected).updStore 0 (fun r =>
      { r with reserved := 2, holder := some .p1 }) |>.wired (.engine .p1) 0 .result).gives (.result 1 (some
      (.double, false))) (fun t => (t.slot 0).map (fun r => (r.list, r.paid, r.listChange)) = some ([], 200, 1)) := by
  decide +kernel

/-- R109: with no entry left there is no plan cursor while the band read of the last NONE is awaited. -/
theorem test_no_entry_no_plan_cursor :
    ((((ready.stock 0 100 2).at7 { paying with list := [⟨0, 2⟩] }).setEngine .p1 payer).updStore 0 (fun r =>
      { r with reserved := 2, holder := some .p1 }) |>.wired (.engine .p1) 0 (.divert .cupP1)).gives (.divert 1
      false) (fun t => (t.engine .p1).bandAwaited = some 0 ∧ t.planCursor .p1 = none) := by
  decide +kernel

/-- R143: settings that came due while the station was absent are sent once SET-STORE makes it present. -/
theorem test_present_sends_settings :
    (ready.updStore 4 (fun r => { r with settingsDue := true })).gives (.setStore .m (.fits ⟨5, some 1, none, some
      100, none, none, none, none, none, none, none, none, false⟩)) (fun t => t.reconciler.work.any (fun w =>
      w.isSettings 4) = true) := by
  decide +kernel

/-- The table gives no row any bits: no word spells a command (log 30). -/
theorem test_no_word_spells_a_command : decodeTableWord 64 0x1001 = none ∧ shop.withFetchWord 64 0x1001 = shop := by
  exact ⟨rfl, rfl⟩

/-- R176: a band read after a final NONE that no engine awaits any more is not made once its store is DISABLED. -/
theorem test_read_after_none_not_made :
    (shop.setReconciler ⟨[engineRead 2 true], []⟩).gives (.disable .m (.fits ⟨3⟩)) (fun t => (t.store 2).state =
      .disabled ∧ t.reconciler.work.any (fun w => w.readsBand 2) = false) := by
  decide +kernel

/-- R8, R176: a store DISABLED while the BAND read after a final NONE was on the bus keeps its state, and JAM is captured. -/
theorem test_jam_after_none_in_disabled :
    ((shop.storeIn 0 .disabled).work7 { noneRead with ops := [.band] } .band).gives (.band 1 (some .mid)) (fun t =>
      (t.store 0).state = .disabled ∧ ((t.storeBank 0).capture.map Capture.code) = some .jam) := by
  decide +kernel

/-! ## Witnesses: what meets the hypotheses of each clause of each statement -/

theorem witness_StepRunsTheFrontCommand :
    (∃ (c : Instr) (rest : List Instr) (s : State), s.pending = c :: rest) ∧
    (∃ (s : State), s.pending = []) :=
  ⟨⟨.maskUpdate .p1, [], shop.ask (.maskUpdate .p1), by decide⟩,
   ⟨shop, by decide⟩⟩

theorem witness_StepKeepsLevelsAndChains :
    (∃ (s : State) (t : State), s.levelsAgree ∧ s.chainsOrdered ∧ step s = .next t) :=
  ⟨shop.ask (.cashboxPresence .out), _, by unfold State.levelsAgree; decide,
    by unfold State.chainsOrdered StoreCfg.inOrder; decide, rfl⟩

theorem witness_StepKeepsTheBoxState :
    (∃ (s : State) (t : State), s.boxAgrees ∧ step s = .next t) :=
  ⟨shop.ask (.cashboxPresence .out), _, by unfold State.boxAgrees; decide, rfl⟩

theorem witness_StepKeepsCountMemory :
    (∃ (s : State) (t : State), s.countsKept ∧ step s = .next t) :=
  ⟨State.reset, State.reset.ticked, fun _ => by decide +kernel, rfl⟩

theorem witness_StepKeepsTheMasks :
    (∃ (s : State) (t : State), s.masksFormed ∧ step s = .next t) :=
  ⟨shop.ask (.lapse 7), _, points_of (by decide), rfl⟩

theorem witness_StepKeepsThePool :
    (∃ (s : State) (t : State), s.poolAgrees ∧ s.chainsOrdered ∧ step s = .next t) ∧
    (∃ (s : State) (t : State), s.poolAgrees ∧ s.arbitersSound ∧ step s = .next t) :=
  ⟨⟨(reserved.paidBy payer).ask (.cashboxPresence .out), _, pool_of (by decide),
    by unfold State.chainsOrdered StoreCfg.inOrder; decide, rfl⟩,
   ⟨(reserved.paidBy payer).ask (.cashboxPresence .out), _, pool_of (by decide),
     arbiters_of (by decide) (by decide) (by decide) (by decide), rfl⟩⟩

theorem witness_StepKeepsCreditsSettled :
    (∃ (s : State) (t : State), s.creditsSettled ∧ step s = .next t) :=
  ⟨(reserved.paidBy payer).ask (.maskHeld .p1 0), _, ⟨pool7.1, pool7.2.1, pool7.2.2.2.1,
    fun _ _ => .inr (empty_queues (by decide) _)⟩, rfl⟩

theorem witness_OpenTakesTheLowestFreeSlot :
    (∃ (s : State) (p : PortId) (f : OpenFields) (kind : RecKind), s.ready p .openRecord ∧ recKindOf f.kind = some
      kind ∧ f.tag = 0#16) ∧
    (∃ (s : State) (p : PortId) (f : OpenFields) (kind : RecKind), s.ready p .openRecord ∧ recKindOf f.kind = some
      kind ∧ f.tag ≠ 0#16 ∧ f.due.toNat ≤ 99999 ∧ (s.findTag f.tag.toNat).isSome = true) ∧
    (∃ (s : State) (p : PortId) (f : OpenFields) (kind : RecKind) (i : Slot), s.ready p .openRecord ∧ recKindOf f.kind
      = some kind ∧ f.tag ≠ 0#16 ∧ f.due.toNat ≤ 99999 ∧ (∀ j r, s.slot j = some r → r.tag ≠ f.tag.toNat) ∧ s.slot i =
      none ∧ (∀ j, j < i → s.slot j ≠ none)) :=
  ⟨⟨shop, .a, ⟨0, 1, 300⟩, .sale, by unfold State.ready; decide, by decide, by decide⟩,
   ⟨shop.at7 tendered, .b, ⟨7, 1, 300⟩, .sale, by unfold State.ready; decide, by decide, by decide, by decide,
     by decide⟩,
   ⟨shop.at7 tendered, .m, ⟨8, 2, 99999⟩, .refund, 1, by unfold State.ready; decide, by decide, by decide,
     by decide, slots_of (by decide), by decide, by decide⟩⟩

theorem witness_OpenReclaimsTheOldestFinalRecord :
    (∃ (s : State) (p : PortId) (f : OpenFields) (kind : RecKind), s.ready p .openRecord ∧ recKindOf f.kind = some
      kind ∧ f.tag ≠ 0#16 ∧ f.due.toNat ≤ 99999 ∧ (∀ j r, s.slot j = some r → r.tag ≠ f.tag.toNat) ∧ (∀ j, s.slot j ≠
      none) ∧ (∀ j q, s.slot j = some q → q.state ≠ .paid ∧ q.state ≠ .void)) ∧
    (∃ (s : State) (p : PortId) (f : OpenFields) (kind : RecKind) (i : Slot) (old : Rec), s.ready p .openRecord ∧
      recKindOf f.kind = some kind ∧ f.tag ≠ 0#16 ∧ f.due.toNat ≤ 99999 ∧ (∀ j r, s.slot j = some r → r.tag ≠
      f.tag.toNat) ∧ (∀ j, s.slot j ≠ none) ∧ s.slot i = some old ∧ (old.state = .paid ∨ old.state = .void) ∧ (∀ j q,
      s.slot j = some q → (q.state = .paid ∨ q.state = .void) → j ≠ i → age s.time q.stateSince < age s.time
      old.stateSince ∨ (age s.time q.stateSince = age s.time old.stateSince ∧ i < j)) ∧ (∀ q, s.pointOf old.tag = some
      q → (s.point q).queueSettled)) :=
  ⟨⟨shop.full .opened, .a, ⟨8, 1, 0⟩, .sale, by unfold State.ready; decide, by decide, by decide, by decide,
    slots_of (by decide), by decide, slots_of (by decide)⟩,
   ⟨shop.full .paid, .a, ⟨8, 1, 300⟩, .sale, 0, { Rec.fresh 5 0 101 .sale 0 with state := .paid },
     by unfold State.ready; decide, by decide, by decide, by decide, slots_of (by decide), by decide, by decide,
     by decide, slots_of (by decide), fun q _ => empty_queues (by decide) q⟩⟩

theorem witness_RecordCommandsNeedALiveRecord :
    (∃ (c : Instr) (p : PortId) (k : Cmd) (tag : BitVec 16) (argumentsFit : Bool) (s : State), c.command = some (p, k)
      ∧ c.naming = some (tag, argumentsFit) ∧ s.ready p k ∧ (tag = 0#16 ∨ argumentsFit = false)) ∧
    (∃ (c : Instr) (p : PortId) (k : Cmd) (tag : BitVec 16) (argumentsFit : Bool) (s : State), c.command = some (p, k)
      ∧ c.naming = some (tag, argumentsFit) ∧ s.ready p k ∧ tag ≠ 0#16 ∧ argumentsFit = true ∧ (∀ j q, s.slot j = some
      q → q.tag ≠ tag.toNat)) ∧
    (∃ (c : Instr) (p : PortId) (k : Cmd) (tag : BitVec 16) (argumentsFit : Bool) (s : State) (i : Slot) (r : Rec),
      c.command = some (p, k) ∧ c.naming = some (tag, argumentsFit) ∧ s.ready p k ∧ argumentsFit = true ∧ s.holds tag
      i r ∧ r.state = .paying ∧ k ≠ .retire ∧ k ≠ .queryRecord) :=
  ⟨⟨.amend .a (.fits ⟨7, 100000⟩), .a, .amend, 7, false, shop.at7 tendered, by decide, by decide,
    by unfold State.ready; decide, by decide⟩,
   ⟨.settle .a (.fits ⟨8⟩), .a, .settle, 8, true, shop.at7 tendered, by decide, by decide,
     by unfold State.ready; decide, by decide, by decide, slots_of (by decide)⟩,
   ⟨.unbind .b (.fits ⟨7⟩), .b, .unbind, 7, true, reserved.paidBy payer, 0, paying, by decide, by decide,
     by unfold State.ready; decide, by decide, holds_of (by decide), by decide, by decide, by decide⟩⟩

theorem witness_AmendSetsDue :
    (∃ (s : State) (p : PortId) (f : AmendFields) (i : Slot) (r : Rec), s.ready p .amend ∧ s.holds f.tag i r ∧
      f.due.toNat ≤ 99999 ∧ r.listFormed ∧ r.state = .paying) ∧
    (∃ (s : State) (p : PortId) (f : AmendFields) (i : Slot) (r : Rec), s.ready p .amend ∧ s.holds f.tag i r ∧
      f.due.toNat ≤ 99999 ∧ r.listFormed ∧ (r.state = .paid ∨ r.state = .void)) ∧
    (∃ (s : State) (p : PortId) (f : AmendFields) (i : Slot) (r : Rec), s.ready p .amend ∧ s.holds f.tag i r ∧
      f.due.toNat ≤ 99999 ∧ r.listFormed ∧ r.state ≠ .paying ∧ r.state ≠ .paid ∧ r.state ≠ .void ∧ (r.kind = .sale ∧ 0
      < r.paid ∧ r.tendered < f.due.toNat)) ∧
    (∃ (s : State) (p : PortId) (f : AmendFields) (i : Slot) (r : Rec), s.ready p .amend ∧ s.holds f.tag i r ∧
      f.due.toNat ≤ 99999 ∧ r.listFormed ∧ r.state ≠ .paying ∧ r.state ≠ .paid ∧ r.state ≠ .void ∧ (¬(r.kind = .sale ∧
      0 < r.paid ∧ r.tendered < f.due.toNat))) :=
  ⟨⟨reserved.paidBy payer, .a, ⟨7, 0⟩, 0, paying, by unfold State.ready; decide, holds_of (by decide), by decide,
    by unfold Rec.listFormed; decide, by decide⟩,
   ⟨shop.at7 paid, .a, ⟨7, 0⟩, 0, paid, by unfold State.ready; decide, holds_of (by decide), by decide,
     by unfold Rec.listFormed; decide, by decide⟩,
   ⟨shop.at7 partPaid, .a, ⟨7, 551⟩, 0, partPaid, by unfold State.ready; decide, holds_of (by decide), by decide,
     by unfold Rec.listFormed; decide, by decide, by decide, by decide, by decide⟩,
   ⟨shop.at7 tendered, .a, ⟨7, 99999⟩, 0, tendered, by unfold State.ready; decide, holds_of (by decide), by decide,
     by unfold Rec.listFormed; decide, by decide, by decide, by decide, by decide⟩⟩

theorem witness_BindJoinsRecordAndPoint :
    (∃ (s : State) (p : PortId) (f : TagPointFields) (q : PointId) (i : Slot) (r : Rec), s.ready p .bind ∧ s.holds
      f.tag i r ∧ Sys2Proof.Machine.pointOf f.point = some q ∧ r.state = .paying) ∧
    (∃ (s : State) (p : PortId) (f : TagPointFields) (q : PointId) (i : Slot) (r : Rec), s.ready p .bind ∧ s.holds
      f.tag i r ∧ Sys2Proof.Machine.pointOf f.point = some q ∧ r.state ≠ .paying ∧ r.state ≠ .void ∧ s.pointOf r.tag =
      some q) ∧
    (∃ (s : State) (p : PortId) (f : TagPointFields) (q : PointId) (i : Slot) (r : Rec), s.ready p .bind ∧ s.holds
      f.tag i r ∧ Sys2Proof.Machine.pointOf f.point = some q ∧ (r.state = .paid ∨ r.state = .void) ∧ s.pointOf r.tag ≠
      some q) ∧
    (∃ (s : State) (p : PortId) (f : TagPointFields) (q : PointId) (i : Slot) (r : Rec), s.ready p .bind ∧ s.holds
      f.tag i r ∧ Sys2Proof.Machine.pointOf f.point = some q ∧ r.state ≠ .paying ∧ r.state ≠ .paid ∧ r.state ≠ .void ∧
      s.pointOf r.tag ≠ some q ∧ ((s.pointOf r.tag).isSome = true ∨ (s.point q).binding ≠ .none)) ∧
    (∃ (s : State) (p : PortId) (f : TagPointFields) (q : PointId) (i : Slot) (r : Rec), s.ready p .bind ∧ s.holds
      f.tag i r ∧ Sys2Proof.Machine.pointOf f.point = some q ∧ r.listFormed ∧ (r.state = .opened ∨ r.state = .settled
      ∨ r.state = .partPaid ∨ r.state = .interrupted) ∧ s.pointOf r.tag = none ∧ (s.point q).binding = .none ∧
      (s.point q).queueSettled ∧ (r.kind = .refund ∨ (s.point q).unclaimed = 0)) ∧
    (∃ (s : State) (p : PortId) (f : TagPointFields) (q : PointId) (i : Slot) (r : Rec), s.ready p .bind ∧ s.holds
      f.tag i r ∧ Sys2Proof.Machine.pointOf f.point = some q ∧ r.listFormed ∧ (r.state = .opened ∨ r.state = .settled
      ∨ r.state = .partPaid ∨ r.state = .interrupted) ∧ s.pointOf r.tag = none ∧ (s.point q).binding = .none ∧
      (s.point q).queueSettled ∧ (r.kind = .sale ∧ 0 < (s.point q).unclaimed)) :=
  ⟨⟨reserved.paidBy payer, .a, ⟨7, 1⟩, .p1, 0, paying, by unfold State.ready; decide, holds_of (by decide),
    by decide, by decide⟩,
   ⟨shop.at7 paid, .a, ⟨7, 1⟩, .p1, 0, paid, by unfold State.ready; decide, holds_of (by decide), by decide,
     by decide, by decide, by decide⟩,
   ⟨shop.at7 paid, .a, ⟨7, 2⟩, .p2, 0, paid, by unfold State.ready; decide, holds_of (by decide), by decide,
     by decide, by decide⟩,
   ⟨shop.at7 tendered, .a, ⟨7, 2⟩, .p2, 0, tendered, by unfold State.ready; decide, holds_of (by decide), by decide,
     by decide, by decide, by decide, by decide, by decide⟩,
   ⟨shop.with7 refund, .a, ⟨7, 1⟩, .p1, 0, refund, by unfold State.ready; decide, holds_of (by decide), by decide,
     by unfold Rec.listFormed; decide, by decide, by decide, by decide, empty_queues (by decide) _, by decide⟩,
   ⟨(shop.with7 sale).updPoint .p2 (fun x => { x with unclaimed := 500 }), .b, ⟨7, 2⟩, .p2, 0, sale,
     by unfold State.ready; decide, holds_of (by decide), by decide, by unfold Rec.listFormed; decide, by decide,
     by decide, by decide, empty_queues (by decide) _, by decide⟩⟩

theorem witness_UnbindAndHandoverMoveTheBinding :
    (∃ (s : State) (p : PortId) (f : TagPointFields) (q : PointId) (i : Slot) (r : Rec), s.holds f.tag i r ∧ r.state ≠
      .paying ∧ Sys2Proof.Machine.pointOf f.point = some q ∧ s.ready p .unbind ∧ s.pointOf r.tag = none) ∧
    (∃ (s : State) (p : PortId) (f : TagPointFields) (q : PointId) (i : Slot) (r : Rec), ∃ old, s.holds f.tag i r ∧
      r.state ≠ .paying ∧ Sys2Proof.Machine.pointOf f.point = some q ∧ s.ready p .unbind ∧ s.pointOf r.tag = some old
      ∧ (s.point old).queueSettled) ∧
    (∃ (s : State) (p : PortId) (f : TagPointFields) (q : PointId) (i : Slot) (r : Rec), s.holds f.tag i r ∧ r.state ≠
      .paying ∧ Sys2Proof.Machine.pointOf f.point = some q ∧ s.ready p .handover ∧ r.state = .void) ∧
    (∃ (s : State) (p : PortId) (f : TagPointFields) (q : PointId) (i : Slot) (r : Rec), s.holds f.tag i r ∧ r.state ≠
      .paying ∧ Sys2Proof.Machine.pointOf f.point = some q ∧ s.ready p .handover ∧ r.state ≠ .void ∧ s.pointOf r.tag =
      some q) ∧
    (∃ (s : State) (p : PortId) (f : TagPointFields) (q : PointId) (i : Slot) (r : Rec), s.holds f.tag i r ∧ r.state ≠
      .paying ∧ Sys2Proof.Machine.pointOf f.point = some q ∧ s.ready p .handover ∧ r.state ≠ .void ∧ (s.pointOf r.tag
      = none ∨ (s.pointOf r.tag ≠ some q ∧ (s.point q).binding ≠ .none))) ∧
    (∃ (s : State) (p : PortId) (f : TagPointFields) (q : PointId) (i : Slot) (r : Rec), ∃ old, s.holds f.tag i r ∧
      r.state ≠ .paying ∧ Sys2Proof.Machine.pointOf f.point = some q ∧ s.ready p .handover ∧ r.state ≠ .void ∧
      s.pointOf r.tag = some old ∧ old ≠ q ∧ (s.point q).binding = .none ∧ (s.point q).queueSettled ∧ (s.point
      old).queueSettled) :=
  ⟨⟨shop.with7 sale, .a, ⟨7, 1⟩, .p1, 0, sale, holds_of (by decide), by decide, by decide,
    by unfold State.ready; decide, by decide⟩,
   ⟨shop.at7 tendered, .a, ⟨7, 1⟩, .p1, 0, tendered, .p1, holds_of (by decide), by decide, by decide,
     by unfold State.ready; decide, by decide, empty_queues (by decide) _⟩,
   ⟨shop.at7 voided, .a, ⟨7, 1⟩, .p1, 0, voided, holds_of (by decide), by decide, by decide,
     by unfold State.ready; decide, by decide⟩,
   ⟨reserved.at7 settled, .a, ⟨7, 1⟩, .p1, 0, settled, holds_of (by decide), by decide, by decide,
     by unfold State.ready; decide, by decide, by decide⟩,
   ⟨shop.with7 sale, .a, ⟨7, 1⟩, .p1, 0, sale, holds_of (by decide), by decide, by decide,
     by unfold State.ready; decide, by decide, by decide⟩,
   ⟨shop.at7 tendered, .a, ⟨7, 2⟩, .p2, 0, tendered, .p1, holds_of (by decide), by decide, by decide,
     by unfold State.ready; decide, by decide, by decide, by decide, by decide, empty_queues (by decide) _,
     empty_queues (by decide) _⟩⟩

theorem witness_VoidEndsAnEmptyRecord :
    (∃ (s : State) (p : PortId) (f : TagFields) (i : Slot) (r : Rec), s.ready p .voidRecord ∧ s.holds f.tag i r ∧
      r.listFormed ∧ (∀ q, s.pointOf r.tag = some q → (s.point q).queueSettled) ∧ r.state = .paying) ∧
    (∃ (s : State) (p : PortId) (f : TagFields) (i : Slot) (r : Rec), s.ready p .voidRecord ∧ s.holds f.tag i r ∧
      r.listFormed ∧ (∀ q, s.pointOf r.tag = some q → (s.point q).queueSettled) ∧ r.state = .paid) ∧
    (∃ (s : State) (p : PortId) (f : TagFields) (i : Slot) (r : Rec), s.ready p .voidRecord ∧ s.holds f.tag i r ∧
      r.listFormed ∧ (∀ q, s.pointOf r.tag = some q → (s.point q).queueSettled) ∧ r.state = .void) ∧
    (∃ (s : State) (p : PortId) (f : TagFields) (i : Slot) (r : Rec), s.ready p .voidRecord ∧ s.holds f.tag i r ∧
      r.listFormed ∧ (∀ q, s.pointOf r.tag = some q → (s.point q).queueSettled) ∧ r.state ≠ .paying ∧ r.state ≠ .paid
      ∧ r.state ≠ .void ∧ (0 < r.tendered ∨ 0 < r.paid)) ∧
    (∃ (s : State) (p : PortId) (f : TagFields) (i : Slot) (r : Rec), s.ready p .voidRecord ∧ s.holds f.tag i r ∧
      r.listFormed ∧ (∀ q, s.pointOf r.tag = some q → (s.point q).queueSettled) ∧ r.state ≠ .paying ∧ r.state ≠ .paid
      ∧ r.state ≠ .void ∧ r.tendered = 0 ∧ r.paid = 0) ∧
    (∃ (s : State) (p : PortId) (f : TagFields) (i : Slot) (r : Rec), ∃ q, s.ready p .voidRecord ∧ s.holds f.tag i r ∧
      r.listFormed ∧ (∀ q, s.pointOf r.tag = some q → (s.point q).queueSettled) ∧ r.state ≠ .paying ∧ r.state ≠ .paid
      ∧ r.state ≠ .void ∧ r.tendered = 0 ∧ r.paid = 0 ∧ s.pointOf r.tag = some q) :=
  ⟨⟨reserved.paidBy payer, .a, ⟨7⟩, 0, paying, by unfold State.ready; decide, holds_of (by decide),
    by unfold Rec.listFormed; decide, fun q _ => empty_queues (by decide) q, by decide⟩,
   ⟨shop.at7 paid, .a, ⟨7⟩, 0, paid, by unfold State.ready; decide, holds_of (by decide),
     by unfold Rec.listFormed; decide, fun q _ => empty_queues (by decide) q, by decide⟩,
   ⟨shop.at7 voided, .a, ⟨7⟩, 0, voided, by unfold State.ready; decide, holds_of (by decide),
     by unfold Rec.listFormed; decide, fun q _ => empty_queues (by decide) q, by decide⟩,
   ⟨shop.at7 touched, .a, ⟨7⟩, 0, touched, by unfold State.ready; decide, holds_of (by decide),
     by unfold Rec.listFormed; decide, fun q _ => empty_queues (by decide) q, by decide, by decide, by decide,
     by decide⟩,
   ⟨shop.at7 sale, .a, ⟨7⟩, 0, sale, by unfold State.ready; decide, holds_of (by decide),
     by unfold Rec.listFormed; decide, fun q _ => empty_queues (by decide) q, by decide, by decide, by decide,
     by decide, by decide⟩,
   ⟨shop.at7 sale, .a, ⟨7⟩, 0, sale, .p1, by unfold State.ready; decide, holds_of (by decide),
     by unfold Rec.listFormed; decide, fun q _ => empty_queues (by decide) q, by decide, by decide, by decide,
     by decide, by decide, by decide⟩⟩

theorem witness_CloseShortEndsWithTheRemaining :
    (∃ (s : State) (p : PortId) (f : TagFields) (i : Slot) (r : Rec), s.ready p .closeShort ∧ s.holds f.tag i r ∧
      r.state = .paying) ∧
    (∃ (s : State) (p : PortId) (f : TagFields) (i : Slot) (r : Rec), s.ready p .closeShort ∧ s.holds f.tag i r ∧
      (r.state = .settled ∨ r.state = .paid ∨ r.state = .void)) ∧
    (∃ (s : State) (p : PortId) (f : TagFields) (i : Slot) (r : Rec), s.ready p .closeShort ∧ s.holds f.tag i r ∧
      (r.state = .opened ∨ r.state = .tendering ∨ r.state = .partPaid ∨ r.state = .interrupted) ∧ r.owed = none ∧
      r.kind = .sale) ∧
    (∃ (s : State) (p : PortId) (f : TagFields) (i : Slot) (r : Rec), ∃ owed, s.ready p .closeShort ∧ s.holds f.tag i
      r ∧ (r.state = .opened ∨ r.state = .tendering ∨ r.state = .partPaid ∨ r.state = .interrupted) ∧ r.owed = some
      owed) :=
  ⟨⟨reserved.paidBy payer, .a, ⟨7⟩, 0, paying, by unfold State.ready; decide, holds_of (by decide), by decide⟩,
   ⟨reserved.at7 settled, .a, ⟨7⟩, 0, settled, by unfold State.ready; decide, holds_of (by decide), by decide⟩,
   ⟨shop.at7 sale, .a, ⟨7⟩, 0, sale, by unfold State.ready; decide, holds_of (by decide), by decide, by decide,
     by decide⟩,
   ⟨shop.at7 tendered, .a, ⟨7⟩, 0, tendered, 250, by unfold State.ready; decide, holds_of (by decide), by decide,
     by decide⟩⟩

theorem witness_RetireFreesTheSlot :
    (∃ (s : State) (p : PortId) (f : TagFields) (i : Slot) (r : Rec), s.ready p .retire ∧ s.holds f.tag i r ∧ (∀ q,
      s.pointOf r.tag = some q → (s.point q).queueSettled) ∧ r.state ≠ .paid ∧ r.state ≠ .void) ∧
    (∃ (s : State) (p : PortId) (f : TagFields) (i : Slot) (r : Rec), s.ready p .retire ∧ s.holds f.tag i r ∧ (∀ q,
      s.pointOf r.tag = some q → (s.point q).queueSettled) ∧ (r.state = .paid ∨ r.state = .void)) ∧
    (∃ (s : State) (p : PortId) (f : TagFields) (i : Slot) (r : Rec), ∃ q, s.ready p .retire ∧ s.holds f.tag i r ∧ (∀
      q, s.pointOf r.tag = some q → (s.point q).queueSettled) ∧ (r.state = .paid ∨ r.state = .void) ∧ s.pointOf r.tag
      = some q) :=
  ⟨⟨reserved.paidBy payer, .a, ⟨7⟩, 0, paying, by unfold State.ready; decide, holds_of (by decide),
    fun q _ => empty_queues (by decide) q, by decide, by decide⟩,
   ⟨shop.at7 paid, .a, ⟨7⟩, 0, paid, by unfold State.ready; decide, holds_of (by decide),
     fun q _ => empty_queues (by decide) q, by decide⟩,
   ⟨shop.at7 paid, .a, ⟨7⟩, 0, paid, .p1, by unfold State.ready; decide, holds_of (by decide),
     fun q _ => empty_queues (by decide) q, by decide, by decide⟩⟩

theorem witness_RoundingTakesTheNearerMultiple :
    (∃ (u : Nat) (v : Nat), (u = 1 ∨ u = 2 ∨ u = 5 ∨ u = 10) ∧ v ≤ 99999 ∧ v % u = 0) ∧
    (∃ (u : Nat) (v : Nat), (u = 1 ∨ u = 2 ∨ u = 5 ∨ u = 10) ∧ v ≤ 99999 ∧ 0 < v % u ∧ 2 * (v % u) < u) ∧
    (∃ (u : Nat) (v : Nat), (u = 1 ∨ u = 2 ∨ u = 5 ∨ u = 10) ∧ v ≤ 99999 ∧ 0 < v % u ∧ u ≤ 2 * (v % u) ∧ v - v % u + u
      ≤ 99999) ∧
    (∃ (u : Nat) (v : Nat), (u = 1 ∨ u = 2 ∨ u = 5 ∨ u = 10) ∧ v ≤ 99999 ∧ 0 < v % u ∧ u ≤ 2 * (v % u) ∧ 99999 < v - v
      % u + u) ∧
    (∃ (due : Nat) (tendered : Nat), due ≤ tendered) :=
  ⟨⟨10, 380, by decide, by decide, by decide⟩,
   ⟨5, 382, by decide, by decide, by decide, by decide⟩,
   ⟨2, 7, by decide, by decide, by decide, by decide, by decide⟩,
   ⟨2, 99999, by decide, by decide, by decide, by decide, by decide⟩,
   ⟨300, 300, by decide⟩⟩

theorem witness_SearchFindsTheGreatestSplit :
    (∃ (available : List (Nat × Nat)) (limit : Nat) (target : Nat), (∀ x ∈ available, 0 < x.1) ∧ chosenSplit available
      limit target = none) ∧
    (∃ (available : List (Nat × Nat)) (limit : Nat) (target : Nat), ∃ chosen, (∀ x ∈ available, 0 < x.1) ∧ chosenSplit
      available limit target = some chosen) ∧
    (∃ (available : List (Nat × Nat)) (limit : Nat) (target : Nat), ∃ chosen ns, (∀ x ∈ available, 0 < x.1) ∧
      chosenSplit available limit target = some chosen ∧ Admissible available limit target ns) :=
  ⟨⟨[(100, 1), (50, 1)], 40, 120, by decide, by decide⟩,
   ⟨[(25, 1), (10, 3)], 40, 30, [0, 3], by decide, by decide⟩,
   ⟨[(20, 1), (10, 3)], 40, 30, [1, 1], [0, 3], by decide, by decide, ⟨.cons (by decide) (.cons (by decide) .nil),
     by decide, by decide⟩⟩⟩

theorem witness_PlansAreMadeOfWhatIsFree :
    (∃ (s : State) (pass : Pass) (excluded : BitVec 12) (own : Station → Nat) (limit : Nat) (target : Nat) (list :
      List Entry), planOf (s.offers pass excluded own) limit target = some list) ∧
    (∃ (s : State) (pass : Pass) (excluded : BitVec 12) (own : Station → Nat) (limit : Nat) (target : Nat) (list :
      List Entry), planOf (s.offers pass excluded own) limit target = some list ∧ 0 < target) ∧
    (∃ (s : State) (pass : Pass) (excluded : BitVec 12) (own : Station → Nat) (limit : Nat) (target : Nat) (list :
      List Entry), ∃ a b, planOf (s.offers pass excluded own) limit target = some list ∧ 0 < itemsAt list a ∧ b ≠ a ∧
      (s.store b).usable = true ∧ excluded.getLsbD b.val = false ∧ (s.store b).cfg.denomination = (s.store
      a).cfg.denomination) :=
  ⟨⟨shop, .first, 0, fun _ => 0, 40, 0, [], by decide⟩,
   ⟨shop, .second, 1, fun _ => 0, 9, 250, [⟨1, 4⟩, ⟨2, 5⟩], by decide, by decide⟩,
   ⟨twin, .second, 0, fun _ => 0, 40, 500, [⟨0, 4⟩, ⟨3, 1⟩], 0, 3, by decide +kernel, by decide, by decide,
     by decide, by decide, by decide⟩⟩

theorem witness_ShortPlansAreTheLargestBelow :
    (∃ (os : List Offer) (limit : Nat) (target : Nat), ∃ n, largestBelow os limit target = none ∧ 0 < n ∧ n < target) ∧
    (∃ (os : List Offer) (limit : Nat) (target : Nat), ∃ n list, largestBelow os limit target = some (n, list)) ∧
    (∃ (os : List Offer) (limit : Nat) (target : Nat), ∃ n list m, largestBelow os limit target = some (n, list) ∧ n <
      m ∧ m < target) :=
  ⟨⟨[], 40, 5, 4, by decide +kernel, by decide, by decide⟩,
   ⟨[⟨0, 20, 2⟩], 40, 50, 40, [⟨0, 2⟩], by decide +kernel⟩,
   ⟨[⟨0, 20, 2⟩], 40, 50, 40, [⟨0, 2⟩], 49, by decide +kernel, by decide, by decide⟩⟩

theorem witness_BorrowingKeepsTheLendersValue :
    (∃ (s : State) (i : Slot) (x : Rec) (target : Nat) (j : Slot) (y : Rec), s.borrowFrom x target 24 (s.lenders i) =
      none ∧ s.slot j = some y ∧ j ≠ i ∧ y.state = .settled ∧ y.pinned = false) ∧
    (∃ (s : State) (i : Slot) (x : Rec) (target : Nat) (j : Slot) (y : Rec) (forX : List Entry) (forY : List Entry),
      s.borrowFrom x target 24 (s.lenders i) = some (j, y, forX, forY)) ∧
    (∃ (s : State) (i : Slot) (x : Rec) (target : Nat) (j : Slot) (y : Rec) (forX : List Entry) (forY : List Entry), ∃
      k z, s.borrowFrom x target 24 (s.lenders i) = some (j, y, forX, forY) ∧ s.slot k = some z ∧ k ≠ i ∧ k ≠ j ∧
      z.state = .settled ∧ z.pinned = false ∧ Later s.time j y k z) :=
  ⟨⟨lending, 1, borrower, 30, 0, lender, by decide, by decide, by decide, by decide, by decide⟩,
   ⟨lending, 1, borrower, 100, 0, lender, [⟨0, 1⟩], [⟨1, 2⟩], by decide⟩,
   ⟨((lending.with7 { lender with stateSince := 5 }).setSlot 2 (some elder)).setTime 9, 1, borrower, 100, 0,
     { lender with stateSince := 5 }, [⟨0, 1⟩], [⟨1, 2⟩], 2, elder, by decide, by decide, by decide, by decide,
     by decide, by decide, by unfold Later; decide⟩⟩

theorem witness_SettleOfNothingPays :
    (∃ (s : State) (p : PortId) (f : TagFields) (i : Slot) (r : Rec), s.ready p .settle ∧ s.holds f.tag i r ∧
      r.listFormed ∧ r.kind = .sale ∧ r.owed.isSome = true ∧ r.owed.getD 0 ≤ r.paid ∧ r.state ≠ .paying ∧ r.state ≠
      .paid ∧ r.state ≠ .void) ∧
    (∃ (s : State) (p : PortId) (f : TagFields) (i : Slot) (r : Rec), ∃ q, s.ready p .settle ∧ s.holds f.tag i r ∧
      r.listFormed ∧ r.kind = .sale ∧ r.owed.isSome = true ∧ r.owed.getD 0 ≤ r.paid ∧ r.state ≠ .paying ∧ r.state ≠
      .paid ∧ r.state ≠ .void ∧ s.pointOf r.tag = some q) :=
  ⟨⟨shop.at7 evenSale, .a, ⟨7⟩, 0, evenSale, by unfold State.ready; decide, holds_of (by decide),
    by unfold Rec.listFormed; decide, by decide, by decide, by decide, by decide, by decide, by decide⟩,
   ⟨shop.at7 evenSale, .a, ⟨7⟩, 0, evenSale, .p1, by unfold State.ready; decide, holds_of (by decide),
     by unfold Rec.listFormed; decide, by decide, by decide, by decide, by decide, by decide, by decide, by decide⟩⟩

theorem witness_SettleCommitsTheFirstPlan :
    (∃ (s : State) (p : PortId) (f : TagFields) (i : Slot) (r : Rec), s.ready p .settle ∧ s.holds f.tag i r ∧ (r.state
      = .paid ∨ r.state = .void)) ∧
    (∃ (s : State) (p : PortId) (f : TagFields) (i : Slot) (r : Rec), s.ready p .settle ∧ s.holds f.tag i r ∧ r.state
      ≠ .paying ∧ r.state ≠ .paid ∧ r.state ≠ .void ∧ r.kind = .sale ∧ r.owed = none) ∧
    (∃ (s : State) (p : PortId) (f : TagFields) (i : Slot) (r : Rec), ∃ owed, s.ready p .settle ∧ s.holds f.tag i r ∧
      r.state ≠ .paying ∧ r.state ≠ .paid ∧ r.state ≠ .void ∧ r.owed = some owed ∧ r.kind = .refund ∧ owed ≤ r.paid) ∧
    (∃ (s : State) (p : PortId) (f : TagFields) (i : Slot) (r : Rec) (target : Nat), ∃ list, s.ready p .settle ∧
      s.holds f.tag i r ∧ r.listFormed ∧ r.toSettle target ∧ planOf (s.offers .first 0 (itemsAt r.list)) (s.itemsLimit
      r.tag) target = some list) ∧
    (∃ (s : State) (p : PortId) (f : TagFields) (i : Slot) (r : Rec) (target : Nat), ∃ list, s.ready p .settle ∧
      s.holds f.tag i r ∧ r.listFormed ∧ r.toSettle target ∧ planOf (s.offers .first 0 (itemsAt r.list)) (s.itemsLimit
      r.tag) target = none ∧ planOf (s.offers .second 0 (itemsAt r.list)) (s.itemsLimit r.tag) target = some list) ∧
    (∃ (s : State) (p : PortId) (f : TagFields) (i : Slot) (r : Rec) (target : Nat), s.ready p .settle ∧ s.holds f.tag
      i r ∧ r.listFormed ∧ r.toSettle target ∧ planOf (s.offers .first 0 (itemsAt r.list)) (s.itemsLimit r.tag) target
      = none ∧ planOf (s.offers .second 0 (itemsAt r.list)) (s.itemsLimit r.tag) target = none ∧ s.borrowFrom r target
      24 (s.lenders i) = none ∧ largestBelow (s.offers .second 0 (itemsAt r.list)) (s.itemsLimit r.tag) target = none) ∧
    (∃ (s : State) (p : PortId) (f : TagFields) (i : Slot) (r : Rec) (target : Nat), ∃ short, s.ready p .settle ∧
      s.holds f.tag i r ∧ r.listFormed ∧ r.toSettle target ∧ planOf (s.offers .first 0 (itemsAt r.list)) (s.itemsLimit
      r.tag) target = none ∧ planOf (s.offers .second 0 (itemsAt r.list)) (s.itemsLimit r.tag) target = none ∧
      s.borrowFrom r target 24 (s.lenders i) = none ∧ largestBelow (s.offers .second 0 (itemsAt r.list)) (s.itemsLimit
      r.tag) target = some short ∧ s.shortPermitted r.tag = false) ∧
    (∃ (s : State) (p : PortId) (f : TagFields) (i : Slot) (r : Rec) (target : Nat), ∃ short, s.ready p .settle ∧
      s.holds f.tag i r ∧ r.listFormed ∧ r.toSettle target ∧ planOf (s.offers .first 0 (itemsAt r.list)) (s.itemsLimit
      r.tag) target = none ∧ planOf (s.offers .second 0 (itemsAt r.list)) (s.itemsLimit r.tag) target = none ∧
      s.borrowFrom r target 24 (s.lenders i) = none ∧ largestBelow (s.offers .second 0 (itemsAt r.list)) (s.itemsLimit
      r.tag) target = some short ∧ s.shortPermitted r.tag = true) :=
  ⟨⟨shop.at7 paid, .a, ⟨7⟩, 0, paid, by unfold State.ready; decide, holds_of (by decide), by decide⟩,
   ⟨shop.at7 sale, .a, ⟨7⟩, 0, sale, by unfold State.ready; decide, holds_of (by decide), by decide, by decide,
     by decide, by decide, by decide⟩,
   ⟨shop.at7 refunded, .a, ⟨7⟩, 0, refunded, 250, by unfold State.ready; decide, holds_of (by decide), by decide,
     by decide, by decide, by decide, by decide, by decide⟩,
   ⟨shop.at7 tendered, .a, ⟨7⟩, 0, tendered, 250, [⟨0, 2⟩, ⟨1, 1⟩], by unfold State.ready; decide,
     holds_of (by decide), by unfold Rec.listFormed; decide, by unfold Rec.toSettle; decide, by decide⟩,
   ⟨kept.at7 tendered, .a, ⟨7⟩, 0, tendered, 250, [⟨0, 2⟩, ⟨1, 1⟩], by unfold State.ready; decide,
     holds_of (by decide), by unfold Rec.listFormed; decide, by unfold Rec.toSettle; decide, by decide, by decide⟩,
   ⟨ready.at7 tendered, .a, ⟨7⟩, 0, tendered, 250, by unfold State.ready; decide, holds_of (by decide),
     by unfold Rec.listFormed; decide, by unfold Rec.toSettle; decide, by decide, by decide, by decide,
     by decide +kernel⟩,
   ⟨few.at7 tendered, .a, ⟨7⟩, 0, tendered, 250, (200, [⟨0, 2⟩]), by unfold State.ready; decide,
     holds_of (by decide), by unfold Rec.listFormed; decide, by unfold Rec.toSettle; decide, by decide, by decide,
     by decide, by decide +kernel, by decide⟩,
   ⟨(few.at7 tendered).permitShort, .a, ⟨7⟩, 0, tendered, 250, (200, [⟨0, 2⟩]), by unfold State.ready; decide,
     holds_of (by decide), by unfold Rec.listFormed; decide, by unfold Rec.toSettle; decide, by decide, by decide,
     by decide, by decide +kernel, by decide⟩⟩

theorem witness_SettleBorrows :
    (∃ (s : State) (p : PortId) (f : TagFields) (i : Slot) (r : Rec) (target : Nat) (j : Slot) (y : Rec) (lists : List
      Entry × List Entry), s.ready p .settle ∧ s.holds f.tag i r ∧ r.listFormed ∧ y.listFormed ∧ r.toSettle target ∧
      planOf (s.offers .first 0 (itemsAt r.list)) (s.itemsLimit r.tag) target = none ∧ planOf (s.offers .second 0
      (itemsAt r.list)) (s.itemsLimit r.tag) target = none ∧ s.borrowFrom r target 24 (s.lenders i) = some (j, y,
      lists.1, lists.2)) :=
  ⟨lending, .m, ⟨8⟩, 1, borrower, 100, 0, lender, ([⟨0, 1⟩], [⟨1, 2⟩]), by unfold State.ready; decide,
    holds_of (by decide), by unfold Rec.listFormed; decide, by unfold Rec.listFormed; decide,
    by unfold Rec.toSettle; decide, by decide, by decide, by decide⟩

theorem witness_LapseReturnsTheRecord :
    (∃ (s : State) (tag : BitVec 16) (i : Slot) (r : Rec) (moment : Time), s.holds tag i r ∧ r.listFormed ∧ r.state =
      .settled ∧ r.lapseAt = some moment ∧ s.startUp.ended = false) ∧
    (∃ (s : State) (tag : BitVec 16) (i : Slot) (r : Rec) (moment : Time), s.holds tag i r ∧ r.listFormed ∧ r.state =
      .settled ∧ r.lapseAt = some moment ∧ s.startUp.ended = true) :=
  ⟨⟨(reserved.at7 settled).setStartUp ⟨false, false, 0, false⟩, 7, 0, settled, 18000, holds_of (by decide),
    by unfold Rec.listFormed; decide, by decide, by decide, by decide⟩,
   ⟨reserved.at7 settled, 7, 0, settled, 18000, holds_of (by decide), by unfold Rec.listFormed; decide, by decide,
     by decide, by decide⟩⟩

theorem witness_AcceptedItemsAreNotedAndQueued :
    (∃ (s : State) (p : PointId) (item : Byte) (d : BitVec 24), s.startUp.ended = true ∧ (s.point p).line = .up ∧
      s.enginesQuiet ∧ (s.point p).routesStarted ∧ s.tagsDistinct ∧ s.enginesPay ∧ 1 ≤ d.toNat ∧ d.toNat ≤ 50000 ∧
      (s.point p).lastNoted = some item) ∧
    (∃ (s : State) (p : PointId) (item : Byte) (d : BitVec 24), s.startUp.ended = true ∧ (s.point p).line = .up ∧
      s.enginesQuiet ∧ (s.point p).routesStarted ∧ s.tagsDistinct ∧ s.enginesPay ∧ 1 ≤ d.toNat ∧ d.toNat ≤ 50000 ∧
      (s.point p).lastNoted ≠ some item ∧ (s.point p).queue.length < 16 ∧ s.payingAt p) ∧
    (∃ (s : State) (p : PointId) (item : Byte) (d : BitVec 24), s.startUp.ended = true ∧ (s.point p).line = .up ∧
      s.enginesQuiet ∧ (s.point p).routesStarted ∧ s.tagsDistinct ∧ s.enginesPay ∧ 1 ≤ d.toNat ∧ d.toNat ≤ 50000 ∧
      (s.point p).lastNoted ≠ some item ∧ (s.point p).queue.length < 16 ∧ (¬s.payingAt p) ∧ (s.point p).queueSettled) ∧
    (∃ (s : State) (p : PointId) (item : Byte) (d : BitVec 24), s.startUp.ended = true ∧ (s.point p).line = .up ∧
      s.enginesQuiet ∧ (s.point p).routesStarted ∧ s.tagsDistinct ∧ s.enginesPay ∧ 1 ≤ d.toNat ∧ d.toNat ≤ 50000 ∧
      (s.point p).lastNoted ≠ some item ∧ 16 ≤ (s.point p).queue.length ∧ ((s.point p).routeOut ≠ none ∨ (s.engine
      .m).state ≠ .running ∨ (s.cashbox.presence = .inPlace ∧ s.cashbox.count + 1 < s.system.boxCapacity))) ∧
    (∃ (s : State) (p : PointId) (item : Byte) (d : BitVec 24), s.startUp.ended = true ∧ (s.point p).line = .up ∧
      s.enginesQuiet ∧ (s.point p).routesStarted ∧ s.tagsDistinct ∧ s.enginesPay ∧ (d.toNat = 0 ∨ 50000 < d.toNat) ∧
      (s.point p).lastNoted = some item) ∧
    (∃ (s : State) (p : PointId) (item : Byte) (d : BitVec 24), s.startUp.ended = true ∧ (s.point p).line = .up ∧
      s.enginesQuiet ∧ (s.point p).routesStarted ∧ s.tagsDistinct ∧ s.enginesPay ∧ (d.toNat = 0 ∨ 50000 < d.toNat) ∧
      (s.point p).lastNoted ≠ some item ∧ (s.point p).queue.length < 16 ∧ s.payingAt p) ∧
    (∃ (s : State) (p : PointId) (item : Byte) (d : BitVec 24), s.startUp.ended = true ∧ (s.point p).line = .up ∧
      s.enginesQuiet ∧ (s.point p).routesStarted ∧ s.tagsDistinct ∧ s.enginesPay ∧ (d.toNat = 0 ∨ 50000 < d.toNat) ∧
      (s.point p).lastNoted ≠ some item ∧ (s.point p).queue.length < 16 ∧ (¬s.payingAt p) ∧ (s.point p).queueSettled ∧
      (s.point p).unclaimed ≤ 99999) ∧
    (∃ (s : State) (p : PointId) (item : Byte) (d : BitVec 24), s.startUp.ended = true ∧ (s.point p).line = .up ∧
      s.enginesQuiet ∧ (s.point p).routesStarted ∧ s.tagsDistinct ∧ s.enginesPay ∧ (d.toNat = 0 ∨ 50000 < d.toNat) ∧
      (s.point p).lastNoted ≠ some item ∧ 16 ≤ (s.point p).queue.length ∧ (s.point p).unclaimed ≤ 99999) ∧
    (∃ (s : State) (p : PointId) (item : Byte) (d : BitVec 24), s.startUp.ended = true ∧ (s.point p).line = .up ∧
      s.enginesQuiet ∧ (s.point p).routesStarted ∧ s.tagsDistinct ∧ s.enginesPay ∧ 1 ≤ d.toNat ∧ d.toNat ≤ 50000 ∧
      (s.point p).lastNoted ≠ some item ∧ 16 ≤ (s.point p).queue.length ∧ ((s.point p).routeOut ≠ none ∨ (s.engine
      .m).state ≠ .running ∨ (s.cashbox.presence = .inPlace ∧ s.cashbox.count + 1 < s.system.boxCapacity)) ∧ (s.point
      p).routeOut ≠ none) ∧
    (∃ (s : State) (p : PointId) (item : Byte) (d : BitVec 24), s.startUp.ended = true ∧ (s.point p).line = .up ∧
      s.enginesQuiet ∧ (s.point p).routesStarted ∧ s.tagsDistinct ∧ s.enginesPay ∧ 1 ≤ d.toNat ∧ d.toNat ≤ 50000 ∧
      (s.point p).lastNoted ≠ some item ∧ 16 ≤ (s.point p).queue.length ∧ ((s.point p).routeOut ≠ none ∨ (s.engine
      .m).state ≠ .running ∨ (s.cashbox.presence = .inPlace ∧ s.cashbox.count + 1 < s.system.boxCapacity)) ∧ (s.point
      p).routeOut = none) ∧
    (∃ (s : State) (p : PointId) (item : Byte) (d : BitVec 24), s.startUp.ended = true ∧ (s.point p).line = .up ∧
      s.enginesQuiet ∧ (s.point p).routesStarted ∧ s.tagsDistinct ∧ s.enginesPay ∧ 1 ≤ d.toNat ∧ d.toNat ≤ 50000 ∧
      (s.point p).lastNoted ≠ some item ∧ 16 ≤ (s.point p).queue.length ∧ ((s.point p).routeOut ≠ none ∨ (s.engine
      .m).state ≠ .running ∨ (s.cashbox.presence = .inPlace ∧ s.cashbox.count + 1 < s.system.boxCapacity)) ∧ (s.point
      p).routeOut = none ∧ s.cashbox.state ≠ .removed ∧ s.cashbox.count < 65535 ∧ s.cashbox.value + d.toNat ≤ 9999999) :=
  ⟨⟨(shop.lineUp .p1).updPoint .p1 (fun x => { x with lastNoted := some 4 }), .p1, 4, 100, by decide, by decide,
    quiet_of (by decide), by unfold Point.routesStarted; decide, tags_of (by decide), pay_of (by decide), by decide,
    by decide, by decide⟩,
   ⟨(reserved.paidBy payer).lineUp .p1, .p1, 0, 50000, by decide, by decide, quiet_of (by decide),
     by unfold Point.routesStarted; decide, tags_of (by decide), pay_of (by decide), by decide, by decide,
     by decide, by decide, ⟨0, paying, by decide⟩⟩,
   ⟨(shop.lineUp .p1), .p1, 255, 1, by decide, by decide, quiet_of (by decide),
     by unfold Point.routesStarted; decide, tags_of (by decide), pay_of (by decide), by decide, by decide,
     by decide, by decide, not_paying (by decide), empty_queues (by decide) _⟩,
   ⟨shop.queued (fullQueue none) (some 0), .p1, 16, 50000, by decide, by decide, quiet_of (by decide),
     by unfold Point.routesStarted; decide, tags_of (by decide), pay_of (by decide), by decide, by decide,
     by decide, by decide, by decide⟩,
   ⟨(shop.lineUp .p1).updPoint .p1 (fun x => { x with lastNoted := some 4 }), .p1, 4, 0, by decide, by decide,
     quiet_of (by decide), by unfold Point.routesStarted; decide, tags_of (by decide), pay_of (by decide),
     by decide, by decide⟩,
   ⟨(reserved.paidBy payer).lineUp .p1, .p1, 0, 0, by decide, by decide, quiet_of (by decide),
     by unfold Point.routesStarted; decide, tags_of (by decide), pay_of (by decide), by decide, by decide,
     by decide, ⟨0, paying, by decide⟩⟩,
   ⟨(shop.lineUp .p1), .p1, 255, 50001, by decide, by decide, quiet_of (by decide),
     by unfold Point.routesStarted; decide, tags_of (by decide), pay_of (by decide), by decide, by decide,
     by decide, not_paying (by decide), empty_queues (by decide) _, by decide⟩,
   ⟨shop.queued (fullQueue none) (some 0), .p1, 16, 50001, by decide, by decide, quiet_of (by decide),
     by unfold Point.routesStarted; decide, tags_of (by decide), pay_of (by decide), by decide, by decide,
     by decide, by decide⟩,
   ⟨shop.queued (fullQueue none) (some 0), .p1, 16, 50000, by decide, by decide, quiet_of (by decide),
     by unfold Point.routesStarted; decide, tags_of (by decide), pay_of (by decide), by decide, by decide,
     by decide, by decide, by decide, by decide⟩,
   ⟨(reserved.paidBy payer).queued (fullQueue (some .cashbox)) none, .p1, 16, 1, by decide, by decide,
     quiet_of (by decide), by unfold Point.routesStarted; decide, tags_of (by decide), pay_of (by decide),
     by decide, by decide, by decide, by decide, by decide, by decide⟩,
   ⟨(reserved.paidBy payer).queued (fullQueue (some .cashbox)) none, .p1, 16, 1, by decide, by decide,
     quiet_of (by decide), by unfold Point.routesStarted; decide, tags_of (by decide), pay_of (by decide),
     by decide, by decide, by decide, by decide, by decide, by decide, by decide, by decide, by decide⟩⟩

theorem witness_CreditsFollowTheBinding :
    (∃ (s : State) (p : PointId) (item : Byte) (d : BitVec 24), s.startUp.ended = true ∧ (s.point p).line = .up ∧ 1 ≤
      d.toNat ∧ d.toNat ≤ 50000 ∧ s.enginesQuiet ∧ (s.point p).lastNoted ≠ some item ∧ (s.point p).queue.length < 16 ∧
      (s.point p).routesStarted ∧ (s.point p).queueSettled ∧ s.enginesPay ∧ (s.point p).binding = .none) ∧
    (∃ (s : State) (p : PointId) (item : Byte) (d : BitVec 24), ∃ total, s.startUp.ended = true ∧ (s.point p).line =
      .up ∧ 1 ≤ d.toNat ∧ d.toNat ≤ 50000 ∧ s.enginesQuiet ∧ (s.point p).lastNoted ≠ some item ∧ (s.point
      p).queue.length < 16 ∧ (s.point p).routesStarted ∧ (s.point p).queueSettled ∧ s.enginesPay ∧ floatTotal (s.point
      p).binding = some total) ∧
    (∃ (s : State) (p : PointId) (item : Byte) (d : BitVec 24) (i : Slot) (r : Rec), s.startUp.ended = true ∧ (s.point
      p).line = .up ∧ 1 ≤ d.toNat ∧ d.toNat ≤ 50000 ∧ s.enginesQuiet ∧ (s.point p).lastNoted ≠ some item ∧ (s.point
      p).queue.length < 16 ∧ (s.point p).routesStarted ∧ (s.point p).queueSettled ∧ s.enginesPay ∧ s.holds
      (BitVec.ofNat 16 r.tag) i r ∧ r.listFormed ∧ (s.point p).binding = .record r.tag ∧ r.kind = .refund ∧ r.state ≠
      .paying) ∧
    (∃ (s : State) (p : PointId) (item : Byte) (d : BitVec 24) (i : Slot) (r : Rec), s.startUp.ended = true ∧ (s.point
      p).line = .up ∧ 1 ≤ d.toNat ∧ d.toNat ≤ 50000 ∧ s.enginesQuiet ∧ (s.point p).lastNoted ≠ some item ∧ (s.point
      p).queue.length < 16 ∧ (s.point p).routesStarted ∧ (s.point p).queueSettled ∧ s.enginesPay ∧ s.holds
      (BitVec.ofNat 16 r.tag) i r ∧ r.listFormed ∧ (s.point p).binding = .record r.tag ∧ r.kind = .sale ∧ r.state ≠
      .paying ∧ r.state ≠ .void) :=
  ⟨⟨(shop.lineUp .p1), .p1, 4, 100, by decide, by decide, by decide, by decide, quiet_of (by decide), by decide,
    by decide, by unfold Point.routesStarted; decide, empty_queues (by decide) _, pay_of (by decide), by decide⟩,
   ⟨shop.float, .p1, 4, 100, 150, by decide, by decide, by decide, by decide, quiet_of (by decide), by decide,
     by decide, by unfold Point.routesStarted; decide, empty_queues (by decide) _, pay_of (by decide), by decide⟩,
   ⟨(shop.at7 refund).lineUp .p1, .p1, 4, 100, 0, refund, by decide, by decide, by decide, by decide,
     quiet_of (by decide), by decide, by decide, by unfold Point.routesStarted; decide, empty_queues (by decide) _,
     pay_of (by decide), holds_of (by decide), by unfold Rec.listFormed; decide, by decide, by decide, by decide⟩,
   ⟨(reserved.at7 settled).lineUp .p1, .p1, 4, 100, 0, settled, by decide, by decide, by decide, by decide,
     quiet_of (by decide), by decide, by decide, by unfold Point.routesStarted; decide, empty_queues (by decide) _,
     pay_of (by decide), holds_of (by decide), by unfold Rec.listFormed; decide, by decide, by decide, by decide,
     by decide⟩⟩

theorem witness_IdentBringsTheLineUp :
    (∃ (s : State) (recognised : List (BitVec 16)), s.startUp.ended = true ∧ (∀ d ∈ recognised, 1 ≤ d.toNat ∧ d.toNat
      ≤ 50000) ∧ 1 ≤ recognised.length ∧ recognised.length ≤ 16) ∧
    (∃ (s : State) (p : PointId) (recognised : List (BitVec 16)) (held : List (Byte × BitVec 16)), s.startUp.ended =
      true ∧ (∀ d ∈ recognised, 1 ≤ d.toNat ∧ d.toNat ≤ 50000) ∧ 1 ≤ recognised.length ∧ recognised.length ≤ 16 ∧ held
      = [] ∧ (s.point p).queue = [] ∧ (s.point p).releaseOwed = [] ∧ s.enginesQuiet) ∧
    (∃ (s : State) (p : PointId) (recognised : List (BitVec 16)) (held : List (Byte × BitVec 16)), s.startUp.ended =
      true ∧ (∀ d ∈ recognised, 1 ≤ d.toNat ∧ d.toNat ≤ 50000) ∧ 1 ≤ recognised.length ∧ recognised.length ≤ 16 ∧
      s.enginesQuiet ∧ s.enginesPay ∧ (¬s.payingAt p) ∧ s.boxAgrees ∧ (s.point p).releaseOwed = [] ∧ ((s.point
      p).queue.map Credit.item).Nodup ∧ (∀ c ∈ (s.point p).queue, c.route = none ∧ c.applied = true) ∧ (s.point
      p).queue.length + (held.filter (fun h => !(s.point p).queue.any (fun c => c.item == h.1))).length ≤ 16) ∧
    (∃ (s : State) (recognised : List (BitVec 16)), s.startUp.ended = true ∧ (recognised.length = 0 ∨ 16 <
      recognised.length ∨ (recognised.any (fun d => d.toNat < 1 || 50000 < d.toNat)) = true)) ∧
    (∃ (s : State) (p : PointId) (recognised : List (BitVec 16)) (held : List (Byte × BitVec 16)), s.startUp.ended =
      true ∧ (∀ d ∈ recognised, 1 ≤ d.toNat ∧ d.toNat ≤ 50000) ∧ 1 ≤ recognised.length ∧ recognised.length ≤ 16 ∧
      s.enginesQuiet ∧ s.enginesPay ∧ (¬s.payingAt p) ∧ s.boxAgrees ∧ (s.point p).releaseOwed = [] ∧ ((s.point
      p).queue.map Credit.item).Nodup ∧ (∀ c ∈ (s.point p).queue, c.route = none ∧ c.applied = true) ∧ (s.point
      p).queue.length + (held.filter (fun h => !(s.point p).queue.any (fun c => c.item == h.1))).length ≤ 16 ∧
      (s.point p).routeOut = none) ∧
    (∃ (s : State) (p : PointId) (recognised : List (BitVec 16)) (held : List (Byte × BitVec 16)), s.startUp.ended =
      true ∧ (∀ d ∈ recognised, 1 ≤ d.toNat ∧ d.toNat ≤ 50000) ∧ 1 ≤ recognised.length ∧ recognised.length ≤ 16 ∧
      s.enginesQuiet ∧ s.enginesPay ∧ (¬s.payingAt p) ∧ s.boxAgrees ∧ (s.point p).releaseOwed = [] ∧ ((s.point
      p).queue.map Credit.item).Nodup ∧ (∀ c ∈ (s.point p).queue, c.route = none ∧ c.applied = true) ∧ (s.point
      p).queue.length + (held.filter (fun h => !(s.point p).queue.any (fun c => c.item == h.1))).length ≤ 16 ∧
      s.cashbox.state ≠ .removed ∧ s.cashbox.count + ((s.point p).queue.filter (fun c => !held.any (fun h => h.1 ==
      c.item))).length ≤ 65535 ∧ s.cashbox.value + (((s.point p).queue.filter (fun c => !held.any (fun h => h.1 ==
      c.item))).map Credit.denomination).sum ≤ 9999999) ∧
    (∃ (s : State) (p : PointId) (recognised : List (BitVec 16)) (held : List (Byte × BitVec 16)), s.startUp.ended =
      true ∧ (∀ d ∈ recognised, 1 ≤ d.toNat ∧ d.toNat ≤ 50000) ∧ 1 ≤ recognised.length ∧ recognised.length ≤ 16 ∧
      s.enginesQuiet ∧ s.enginesPay ∧ (¬s.payingAt p) ∧ s.boxAgrees ∧ (s.point p).releaseOwed = [] ∧ ((s.point
      p).queue.map Credit.item).Nodup ∧ (∀ c ∈ (s.point p).queue, c.route = none ∧ c.applied = true) ∧ (s.point
      p).queue.length + (held.filter (fun h => !(s.point p).queue.any (fun c => c.item == h.1))).length ≤ 16 ∧
      (s.point p).binding = .none ∧ held ≠ [] ∧ (s.point p).queue = [] ∧ (∀ h ∈ held, 1 ≤ h.2.toNat ∧ h.2.toNat ≤
      50000)) ∧
    (∃ (s : State) (p : PointId) (recognised : List (BitVec 16)) (held : List (Byte × BitVec 16)), s.startUp.ended =
      true ∧ (∀ d ∈ recognised, 1 ≤ d.toNat ∧ d.toNat ≤ 50000) ∧ 1 ≤ recognised.length ∧ recognised.length ≤ 16 ∧
      s.enginesQuiet ∧ s.enginesPay ∧ (¬s.payingAt p) ∧ s.boxAgrees ∧ (s.point p).releaseOwed = [] ∧ ((s.point
      p).queue.map Credit.item).Nodup ∧ (∀ c ∈ (s.point p).queue, c.route = none ∧ c.applied = true) ∧ (s.point
      p).queue.length + (held.filter (fun h => !(s.point p).queue.any (fun c => c.item == h.1))).length ≤ 16 ∧
      ((s.engine .m).state ≠ .running ∨ (s.cashbox.presence = .inPlace ∧ s.cashbox.count + ((s.point p).queue.filter
      (fun c => !held.any (fun h => h.1 == c.item))).length < s.system.boxCapacity))) :=
  ⟨⟨shop, [100, 50000], by decide, by simp, by decide, by decide⟩,
   ⟨shop, .p1, [100, 50000], [], by decide, by simp, by decide, by decide, by decide, by decide, by decide,
     quiet_of (by decide)⟩,
   ⟨shop.queued [⟨4, 50, 0, none, true⟩, ⟨5, 100, 0, none, true⟩] (some 4), .p1, [100, 50000], [(5, 100), (9,
     60000)], by decide, by simp, by decide, by decide, quiet_of (by decide), pay_of (by decide),
     not_paying (by decide), by unfold State.boxAgrees; decide, by decide, by decide, by decide, by decide⟩,
   ⟨shop, [], by decide, by decide⟩,
   ⟨shop.queued [⟨4, 50, 0, none, true⟩, ⟨5, 100, 0, none, true⟩] none, .p1, [100, 50000], [(5, 100), (9, 60000)],
     by decide, by simp, by decide, by decide, quiet_of (by decide), pay_of (by decide), not_paying (by decide),
     by unfold State.boxAgrees; decide, by decide, by decide, by decide, by decide, by decide⟩,
   ⟨shop.queued [⟨4, 50, 0, none, true⟩, ⟨5, 100, 0, none, true⟩] none, .p1, [100, 50000], [(5, 100), (9, 60000)],
     by decide, by simp, by decide, by decide, quiet_of (by decide), pay_of (by decide), not_paying (by decide),
     by unfold State.boxAgrees; decide, by decide, by decide, by decide, by decide, by decide, by decide,
     by decide⟩,
   ⟨shop.queued [] none, .p1, [1], [(5, 1), (9, 50000)], by decide, by simp, by decide, by decide,
     quiet_of (by decide), pay_of (by decide), not_paying (by decide), by unfold State.boxAgrees; decide, by decide,
     by decide, by decide, by decide, by decide, by decide, by decide, by simp⟩,
   ⟨shop.queued [⟨4, 50, 0, none, true⟩, ⟨5, 100, 0, none, true⟩] none, .p1, [100, 50000], [(5, 100), (9, 60000)],
     by decide, by simp, by decide, by decide, quiet_of (by decide), pay_of (by decide), not_paying (by decide),
     by unfold State.boxAgrees; decide, by decide, by decide, by decide, by decide, by decide⟩⟩

theorem witness_LinesAreWatched :
    (∃ (s : State) (p : PointId) (watch : Time), (s.point p).watch = some watch ∧ (s.point p).line = .up) ∧
    (∃ (s : State) (p : PointId) (watch : Time), (s.point p).watch = some watch ∧ (s.point p).line = .starting) ∧
    (∃ (s : State) (p : PointId) (watch : Time), (s.point p).watch = some watch ∧ (s.point p).line = .lost) ∧
    (∃ (s : State) (p : PointId) (watch : Time), (s.point p).watch = some watch) ∧
    (∃ (s : State) (p : PointId) (watch : Time), (s.point p).watch = some watch ∧ s.startUp.ended = true ∧ (s.point
      p).line = .up) ∧
    (∃ (s : State) (p : PointId) (watch : Time), (s.point p).watch = some watch ∧ s.startUp.ended = true ∧ (s.point
      p).line = .lost) :=
  ⟨⟨shop.updPoint .p2 (fun x => { x with line := .up, watch := some 5 }), .p2, 5, by decide, by decide⟩,
   ⟨shop.updPoint .p2 (fun x => { x with line := .starting, watch := some 5 }), .p2, 5, by decide, by decide⟩,
   ⟨shop.updPoint .p2 (fun x => { x with line := .lost, watch := some 5 }), .p2, 5, by decide, by decide⟩,
   ⟨shop.updPoint .p2 (fun x => { x with line := .starting, watch := some 5 }), .p2, 5, by decide⟩,
   ⟨shop.updPoint .p2 (fun x => { x with line := .up, watch := some 5 }), .p2, 5, by decide, by decide, by decide⟩,
   ⟨shop.updPoint .p2 (fun x => { x with line := .lost, watch := some 5 }), .p2, 5, by decide, by decide,
     by decide⟩⟩

theorem witness_FloatsAndUnclaimedCredit :
    (∃ (s : State) (port : PortId) (f : ByteFields) (p : PointId), Sys2Proof.Machine.pointOf f.value = some p ∧
      s.ready port .clearUnclaimed) ∧
    (∃ (s : State) (port : PortId) (f : ByteFields) (p : PointId), Sys2Proof.Machine.pointOf f.value = some p ∧
      s.ready port .floatBegin ∧ (s.point p).binding = .none ∧ (s.point p).queue = []) ∧
    (∃ (s : State) (port : PortId) (f : ByteFields) (p : PointId), Sys2Proof.Machine.pointOf f.value = some p ∧
      s.ready port .floatBegin ∧ (s.point p).binding = .none ∧ (s.point p).queue ≠ []) ∧
    (∃ (s : State) (port : PortId) (f : ByteFields) (p : PointId), ∃ total, Sys2Proof.Machine.pointOf f.value = some p
      ∧ s.ready port .floatBegin ∧ floatTotal (s.point p).binding = some total) ∧
    (∃ (s : State) (port : PortId) (f : ByteFields) (p : PointId), Sys2Proof.Machine.pointOf f.value = some p ∧
      s.ready port .floatBegin ∧ (s.point p).binding ≠ .none ∧ floatTotal (s.point p).binding = none) ∧
    (∃ (s : State) (port : PortId) (f : ByteFields) (p : PointId), ∃ total, Sys2Proof.Machine.pointOf f.value = some p
      ∧ s.ready port .floatEnd ∧ floatTotal (s.point p).binding = some total ∧ (s.point p).queue = []) ∧
    (∃ (s : State) (port : PortId) (f : ByteFields) (p : PointId), ∃ total, Sys2Proof.Machine.pointOf f.value = some p
      ∧ s.ready port .floatEnd ∧ floatTotal (s.point p).binding = some total ∧ (s.point p).queue ≠ []) ∧
    (∃ (s : State) (port : PortId) (f : ByteFields) (p : PointId), Sys2Proof.Machine.pointOf f.value = some p ∧
      s.ready port .floatEnd ∧ floatTotal (s.point p).binding = none) :=
  ⟨⟨shop, .m, ⟨1⟩, .p1, by decide, by unfold State.ready; decide⟩,
   ⟨shop, .m, ⟨1⟩, .p1, by decide, by unfold State.ready; decide, by decide, by decide⟩,
   ⟨shop.lastCredit, .m, ⟨1⟩, .p1, by decide, by unfold State.ready; decide, by decide, by decide⟩,
   ⟨shop.float, .m, ⟨1⟩, .p1, 150, by decide, by unfold State.ready; decide, by decide⟩,
   ⟨shop.at7 tendered, .m, ⟨1⟩, .p1, by decide, by unfold State.ready; decide, by decide, by decide⟩,
   ⟨shop.float, .m, ⟨1⟩, .p1, 150, by decide, by unfold State.ready; decide, by decide, by decide⟩,
   ⟨shop.float.lastCredit, .m, ⟨1⟩, .p1, 150, by decide, by unfold State.ready; decide, by decide, by decide⟩,
   ⟨shop.at7 tendered, .m, ⟨1⟩, .p1, by decide, by unfold State.ready; decide, by decide⟩⟩

theorem witness_PayStartsTheEngine :
    (∃ (s : State) (port : PortId) (f : TagFields) (i : Slot) (r : Rec), s.ready port .pay ∧ s.holds f.tag i r ∧
      r.state ≠ .settled ∧ r.state ≠ .paying) ∧
    (∃ (s : State) (port : PortId) (f : TagFields) (i : Slot) (r : Rec) (p : PointId), s.ready port .pay ∧ s.holds
      f.tag i r ∧ r.state = .settled ∧ (s.pointOf r.tag = none ∨ (s.pointOf r.tag = some p ∧ ((s.port port).asPoint.or
      (ownPoint port)).getD p ≠ p))) ∧
    (∃ (s : State) (port : PortId) (f : TagFields) (i : Slot) (r : Rec) (p : PointId) (en : Entry) (rest : List
      Entry), s.ready port .pay ∧ s.holds f.tag i r ∧ r.state = .settled ∧ s.pointOf r.tag = some p ∧ ((s.port
      port).asPoint.or (ownPoint port)).getD p = p ∧ r.list = en :: rest ∧ (s.store en.station).working = true ∧
      s.enginesQuiet ∧ s.bus.sound) :=
  ⟨⟨shop.at7 tendered, .a, ⟨7⟩, 0, tendered, by unfold State.ready; decide, holds_of (by decide), by decide,
    by decide⟩,
   ⟨reserved.at7 settled, .b, ⟨7⟩, 0, settled, .p1, by unfold State.ready; decide, holds_of (by decide), by decide,
     by decide⟩,
   ⟨reserved.at7 settled, .a, ⟨7⟩, 0, settled, .p1, ⟨0, 2⟩, [⟨1, 1⟩], by unfold State.ready; decide,
     holds_of (by decide), by decide, by decide, by decide, by decide, by decide, quiet_of (by decide),
     by unfold Bus.sound; decide⟩⟩

theorem witness_AbortStopsAnEngine :
    (∃ (s : State) (port : PortId) (f : ByteFields) (e : EngineId), s.ready port .abort ∧ engineOf f.value = some e ∧
      port ≠ .m ∧ (ownPoint port).map pointEngine ≠ some e ∧ (s.port port).asPoint.map pointEngine ≠ some e) ∧
    (∃ (s : State) (port : PortId) (f : ByteFields) (e : EngineId), s.ready port .abort ∧ engineOf f.value = some e ∧
      (port = .m ∨ (ownPoint port).map pointEngine = some e ∨ (s.port port).asPoint.map pointEngine = some e) ∧
      (s.engine e).state ≠ .running) ∧
    (∃ (s : State) (port : PortId) (f : ByteFields) (e : EngineId), s.ready port .abort ∧ engineOf f.value = some e ∧
      (port = .m ∨ (ownPoint port).map pointEngine = some e ∨ (s.port port).asPoint.map pointEngine = some e) ∧
      (s.engine e).state = .running ∧ (s.ejecting e = true ∨ (s.engine e).bandAwaited.isSome = true) ∧ s.enginesQuiet) ∧
    (∃ (s : State) (port : PortId) (f : ByteFields) (e : EngineId), ∃ run, s.ready port .abort ∧ engineOf f.value =
      some e ∧ (port = .m ∨ (ownPoint port).map pointEngine = some e ∨ (s.port port).asPoint.map pointEngine = some e)
      ∧ (s.engine e).state = .running ∧ s.ejecting e = false ∧ (s.engine e).bandAwaited = none ∧ s.poolAgrees ∧
      s.arbitersSound ∧ (s.engine .m).run = some run ∧ e = .m) ∧
    (∃ (s : State) (port : PortId) (f : ByteFields) (e : EngineId) (p : PointId) (i : Slot) (r : Rec), s.ready port
      .abort ∧ engineOf f.value = some e ∧ (port = .m ∨ (ownPoint port).map pointEngine = some e ∨ (s.port
      port).asPoint.map pointEngine = some e) ∧ (s.engine e).state = .running ∧ s.ejecting e = false ∧ (s.engine
      e).bandAwaited = none ∧ s.poolAgrees ∧ s.arbitersSound ∧ e = pointEngine p ∧ (s.point p).queueSettled ∧
      (s.engine e).record = some r.tag ∧ s.slot i = some r) :=
  ⟨⟨reserved.paidBy payer, .b, ⟨1⟩, .p1, by unfold State.ready; decide, by decide, by decide, by decide, by decide⟩,
   ⟨shop, .m, ⟨3⟩, .m, by unfold State.ready; decide, by decide, by decide, by decide⟩,
   ⟨reserved.paidBy ejected, .a, ⟨1⟩, .p1, by unfold State.ready; decide, by decide, by decide, by decide,
     by decide, quiet_of (by decide)⟩,
   ⟨(shop.setEngine .m skimming).updStore 2 (fun r => { r with holder := some .m }), .m, ⟨3⟩, .m, ⟨.skim, 2, 5, 0⟩,
     by unfold State.ready; decide, by decide, by decide, by decide, by decide, by decide, pool_of (by decide),
     arbiters_of (by decide) (by decide) (by decide) (by decide), by decide, by decide⟩,
   ⟨reserved.paidBy payer, .a, ⟨1⟩, .p1, .p1, 0, paying, by unfold State.ready; decide, by decide, by decide,
     by decide, by decide, by decide, pool_of (by decide),
     arbiters_of (by decide) (by decide) (by decide) (by decide), by decide, empty_queues (by decide) _, by decide,
     by decide⟩⟩

theorem witness_RunsOfEngineMStart :
    (∃ (s : State) (f : SkimFields), s.ready .m .skim ∧ (stationOf f.station = none ∨ f.items = 0#16 ∨ 2000 <
      f.items.toNat)) ∧
    (∃ (s : State) (f : SkimFields), s.ready .m .skimTo ∧ (stationOf f.station = none ∨ 2000 < f.items.toNat)) ∧
    (∃ (s : State) (f : SkimFields), s.ready .m .testEject ∧ stationOf f.station = none) ∧
    (∃ (s : State) (f : SkimFields) (i : Station), stationOf f.station = some i ∧ s.enginesQuiet ∧ s.bus.sound ∧
      s.ready .m .skim ∧ 1 ≤ f.items.toNat ∧ f.items.toNat ≤ 2000 ∧ s.readyToRun i ∧ (s.store i).reserved < (s.store
      i).count) ∧
    (∃ (s : State) (f : SkimFields) (i : Station), stationOf f.station = some i ∧ s.enginesQuiet ∧ s.bus.sound ∧
      s.ready .m .skim ∧ 1 ≤ f.items.toNat ∧ f.items.toNat ≤ 2000 ∧ s.readyToRun i ∧ (s.store i).count ≤ (s.store
      i).reserved) ∧
    (∃ (s : State) (f : SkimFields) (i : Station), stationOf f.station = some i ∧ s.enginesQuiet ∧ s.bus.sound ∧
      s.ready .m .skim ∧ 1 ≤ f.items.toNat ∧ f.items.toNat ≤ 2000 ∧ (¬s.readyToRun i)) ∧
    (∃ (s : State) (f : SkimFields) (i : Station), stationOf f.station = some i ∧ s.enginesQuiet ∧ s.bus.sound ∧
      s.ready .m .skimTo ∧ f.items.toNat ≤ 2000 ∧ s.readyToRun i ∧ f.items.toNat < (s.store i).count - (s.store
      i).reserved) ∧
    (∃ (s : State) (f : SkimFields) (i : Station), stationOf f.station = some i ∧ s.enginesQuiet ∧ s.bus.sound ∧
      s.ready .m .skimTo ∧ f.items.toNat ≤ 2000 ∧ s.readyToRun i ∧ (s.store i).count - (s.store i).reserved ≤
      f.items.toNat) ∧
    (∃ (s : State) (f : SkimFields) (i : Station), stationOf f.station = some i ∧ s.enginesQuiet ∧ s.bus.sound ∧
      s.ready .m .skimTo ∧ f.items.toNat ≤ 2000 ∧ (¬s.readyToRun i)) ∧
    (∃ (s : State) (f : SkimFields) (i : Station), stationOf f.station = some i ∧ s.enginesQuiet ∧ s.bus.sound ∧
      s.ready .m .testEject ∧ s.readyToRun i ∧ (s.store i).reserved < (s.store i).count) ∧
    (∃ (s : State) (f : SkimFields) (i : Station), stationOf f.station = some i ∧ s.enginesQuiet ∧ s.bus.sound ∧
      s.ready .m .testEject ∧ s.readyToRun i ∧ (s.store i).count ≤ (s.store i).reserved) ∧
    (∃ (s : State) (f : SkimFields) (i : Station), stationOf f.station = some i ∧ s.enginesQuiet ∧ s.bus.sound ∧
      s.ready .m .testEject ∧ (¬s.readyToRun i)) :=
  ⟨⟨shop, ⟨3, 0⟩, by unfold State.ready; decide, by decide⟩,
   ⟨shop, ⟨3, 2001⟩, by unfold State.ready; decide, by decide⟩,
   ⟨shop, ⟨13, 1⟩, by unfold State.ready; decide, by decide⟩,
   ⟨shop, ⟨3, 2000⟩, 2, by decide, quiet_of (by decide), by unfold Bus.sound; decide, by unfold State.ready; decide,
     by decide, by decide, by unfold State.readyToRun; decide, by decide⟩,
   ⟨shop.updStore 2 (fun r => { r with reserved := 20 }), ⟨3, 1⟩, 2, by decide, quiet_of (by decide),
     by unfold Bus.sound; decide, by unfold State.ready; decide, by decide, by decide,
     by unfold State.readyToRun; decide, by decide⟩,
   ⟨shop.storeIn 2 .jammed, ⟨3, 1⟩, 2, by decide, quiet_of (by decide), by unfold Bus.sound; decide,
     by unfold State.ready; decide, by decide, by decide, by unfold State.readyToRun; decide⟩,
   ⟨shop, ⟨3, 5⟩, 2, by decide, quiet_of (by decide), by unfold Bus.sound; decide, by unfold State.ready; decide,
     by decide, by unfold State.readyToRun; decide, by decide⟩,
   ⟨shop, ⟨3, 20⟩, 2, by decide, quiet_of (by decide), by unfold Bus.sound; decide, by unfold State.ready; decide,
     by decide, by unfold State.readyToRun; decide, by decide⟩,
   ⟨shop.storeIn 2 .jammed, ⟨3, 1⟩, 2, by decide, quiet_of (by decide), by unfold Bus.sound; decide,
     by unfold State.ready; decide, by decide, by unfold State.readyToRun; decide⟩,
   ⟨shop, ⟨3, 5⟩, 2, by decide, quiet_of (by decide), by unfold Bus.sound; decide, by unfold State.ready; decide,
     by unfold State.readyToRun; decide, by decide⟩,
   ⟨shop.updStore 2 (fun r => { r with reserved := 20 }), ⟨3, 1⟩, 2, by decide, quiet_of (by decide),
     by unfold Bus.sound; decide, by unfold State.ready; decide, by unfold State.readyToRun; decide, by decide⟩,
   ⟨shop.storeIn 2 .jammed, ⟨3, 1⟩, 2, by decide, quiet_of (by decide), by unfold Bus.sound; decide,
     by unfold State.ready; decide, by unfold State.readyToRun; decide⟩⟩

theorem witness_EngineExchangesAdvance :
    (∃ (s : State) (station : BitVec 4) (e : EngineId) (i : Station) (d : Dest), s.enginesQuiet ∧ (s.engine e).station
      = some i ∧ s.onWire station (.engine e) i (.divert d) false ∧ (s.store i).working = true ∧ (e = .m → s.boxStops
      = false ∧ (s.engine .m).run.map s.goalMet = some false)) ∧
    (∃ (s : State) (station : BitVec 4) (e : EngineId) (i : Station), s.enginesQuiet ∧ (s.engine e).station = some i ∧
      s.onWire station (.engine e) i .eject false) :=
  ⟨⟨(reserved.paidBy payer).wired (.engine .p1) 0 (.divert .cupP1), 1, .p1, 0, .cupP1, quiet_of (by decide),
    by decide, ⟨by decide, 3, false, by decide⟩, by decide, by decide⟩,
   ⟨(reserved.paidBy payer).wired (.engine .p1) 0 .eject, 1, .p1, 0, quiet_of (by decide), by decide, ⟨by decide, 3,
     false, by decide⟩⟩⟩

theorem witness_FinalNoneAwaitsTheBand :
    (∃ (s : State) (station : BitVec 4) (p : PointId) (i : Station) (d : Dest) (j : Slot) (r : Rec), s.enginesQuiet ∧
      s.poolAgrees ∧ (s.engine (pointEngine p)).station = some i ∧ (s.store i).working = true ∧ (s.engine (pointEngine
      p)).record = some r.tag ∧ s.slot j = some r ∧ s.onWire station (.engine (pointEngine p)) i (.divert d) false) ∧
    (∃ (s : State) (station : BitVec 4) (p : PointId) (i : Station) (j : Slot) (r : Rec), s.enginesQuiet ∧
      s.poolAgrees ∧ (s.engine (pointEngine p)).station = some i ∧ (s.store i).working = true ∧ (s.engine (pointEngine
      p)).record = some r.tag ∧ s.slot j = some r ∧ s.onWire station (.engine (pointEngine p)) i .eject false) ∧
    (∃ (s : State) (station : BitVec 4) (p : PointId) (i : Station) (j : Slot) (r : Rec), s.enginesQuiet ∧
      s.poolAgrees ∧ (s.engine (pointEngine p)).station = some i ∧ (s.store i).working = true ∧ (s.engine (pointEngine
      p)).record = some r.tag ∧ s.slot j = some r ∧ s.onWire station (.engine (pointEngine p)) i .result false ∧
      ((s.engine (pointEngine p)).state = .ending ∨ (s.engine (pointEngine p)).mode ≠ some .retry ∨ (s.engine
      (pointEngine p)).retry ≤ (s.engine (pointEngine p)).repeats ∨ itemsAt r.list i = 0)) ∧
    (∃ (s : State) (station : BitVec 4) (p : PointId) (i : Station) (j : Slot) (r : Rec), s.enginesQuiet ∧
      s.poolAgrees ∧ (s.engine (pointEngine p)).station = some i ∧ (s.store i).working = true ∧ (s.engine (pointEngine
      p)).record = some r.tag ∧ s.slot j = some r ∧ s.onWire station (.engine (pointEngine p)) i .result false ∧
      (s.engine (pointEngine p)).state = .running ∧ (s.engine (pointEngine p)).mode = some .retry ∧ (s.engine
      (pointEngine p)).repeats < (s.engine (pointEngine p)).retry ∧ 0 < itemsAt r.list i) ∧
    (∃ (s : State) (station : BitVec 4) (p : PointId) (i : Station) (j : Slot) (r : Rec) (w : Work) (rest : List Work)
      (b : Band), s.enginesQuiet ∧ s.poolAgrees ∧ (s.engine (pointEngine p)).station = some i ∧ (s.store i).working =
      true ∧ (s.engine (pointEngine p)).record = some r.tag ∧ s.slot j = some r ∧ s.workOnWire station w rest .band ∧
      w.station = i ∧ w.afterNone = true ∧ (s.engine (pointEngine p)).bandAwaited = some i ∧ itemsAt r.list i = 0 ∧
      s.arbitersSound ∧ (s.store i).holder = some (pointEngine p) ∧ (s.store i).waiting = [] ∧ (s.store i).ejectRecord
      = none ∧ (∀ at_, (s.store i).lastRouted = some at_ → 50 ≤ age s.time at_) ∧ (s.store i).reserved ≤ bandUpper
      (s.store i).cfg b ∧ (s.point p).queueSettled ∧ ((s.engine (pointEngine p)).state = .ending ∨ (s.engine
      (pointEngine p)).mode = some .halt)) ∧
    (∃ (s : State) (station : BitVec 4) (p : PointId) (i : Station) (j : Slot) (r : Rec) (w : Work) (rest : List Work)
      (b : Band), s.enginesQuiet ∧ s.poolAgrees ∧ (s.engine (pointEngine p)).station = some i ∧ (s.store i).working =
      true ∧ (s.engine (pointEngine p)).record = some r.tag ∧ s.slot j = some r ∧ s.workOnWire station w rest .band ∧
      w.station = i ∧ w.afterNone = true ∧ (s.engine (pointEngine p)).bandAwaited = some i ∧ itemsAt r.list i = 0 ∧
      s.arbitersSound ∧ (s.store i).holder = some (pointEngine p) ∧ (s.store i).waiting = [] ∧ (s.store i).ejectRecord
      = none ∧ (∀ at_, (s.store i).lastRouted = some at_ → 50 ≤ age s.time at_) ∧ (s.store i).reserved ≤ bandUpper
      (s.store i).cfg b ∧ (s.point p).queueSettled ∧ (s.engine (pointEngine p)).state = .running ∧ r.list = [] ∧
      ((s.engine (pointEngine p)).mode = some .cont ∨ (s.engine (pointEngine p)).mode = some .retry ∨ ((s.engine
      (pointEngine p)).mode = some .substitute ∧ s.substitutePlan p = none))) ∧
    (∃ (s : State) (station : BitVec 4) (p : PointId) (i : Station) (j : Slot) (r : Rec) (w : Work) (rest : List Work)
      (b : Band) (en : Entry) (entries : List Entry), s.enginesQuiet ∧ s.poolAgrees ∧ (s.engine (pointEngine
      p)).station = some i ∧ (s.store i).working = true ∧ (s.engine (pointEngine p)).record = some r.tag ∧ s.slot j =
      some r ∧ s.workOnWire station w rest .band ∧ w.station = i ∧ w.afterNone = true ∧ (s.engine (pointEngine
      p)).bandAwaited = some i ∧ itemsAt r.list i = 0 ∧ s.arbitersSound ∧ (s.store i).holder = some (pointEngine p) ∧
      (s.store i).waiting = [] ∧ (s.store i).ejectRecord = none ∧ (∀ at_, (s.store i).lastRouted = some at_ → 50 ≤ age
      s.time at_) ∧ (s.store i).reserved ≤ bandUpper (s.store i).cfg b ∧ (s.engine (pointEngine p)).state = .running ∧
      r.list = en :: entries ∧ (s.store en.station).working = true ∧ ((s.engine (pointEngine p)).mode = some .cont ∨
      (s.engine (pointEngine p)).mode = some .retry ∨ ((s.engine (pointEngine p)).mode = some .substitute ∧
      s.substitutePlan p = none))) ∧
    (∃ (s : State) (station : BitVec 4) (p : PointId) (i : Station) (j : Slot) (r : Rec) (w : Work) (rest : List Work)
      (b : Band) (en : Entry) (entries : List Entry) (plan : List Entry), s.enginesQuiet ∧ s.poolAgrees ∧ (s.engine
      (pointEngine p)).station = some i ∧ (s.store i).working = true ∧ (s.engine (pointEngine p)).record = some r.tag
      ∧ s.slot j = some r ∧ s.workOnWire station w rest .band ∧ w.station = i ∧ w.afterNone = true ∧ (s.engine
      (pointEngine p)).bandAwaited = some i ∧ itemsAt r.list i = 0 ∧ s.arbitersSound ∧ (s.store i).holder = some
      (pointEngine p) ∧ (s.store i).waiting = [] ∧ (s.store i).ejectRecord = none ∧ (∀ at_, (s.store i).lastRouted =
      some at_ → 50 ≤ age s.time at_) ∧ (s.store i).reserved ≤ bandUpper (s.store i).cfg b ∧ (s.engine (pointEngine
      p)).state = .running ∧ (s.engine (pointEngine p)).mode = some .substitute ∧ s.substitutePlan p = some plan ∧
      (s.engine (pointEngine p)).excluded.getLsbD i.val = true ∧ plan.foldl (fun l x => s.placeEntry x l) r.list = en
      :: entries ∧ (s.store en.station).working = true) :=
  ⟨⟨(reserved.paidBy payer).wired (.engine .p1) 0 (.divert .cupP1), 1, .p1, 0, .cupP1, 0, paying,
    quiet_of (by decide), pool_of (by decide), by decide, by decide, by decide, by decide, ⟨by decide, 3, false,
    by decide⟩⟩,
   ⟨(reserved.paidBy payer).wired (.engine .p1) 0 .eject, 1, .p1, 0, 0, paying, quiet_of (by decide),
     pool_of (by decide), by decide, by decide, by decide, by decide, ⟨by decide, 3, false, by decide⟩⟩,
   ⟨(reserved.paidBy payer).wired (.engine .p1) 0 .result, 1, .p1, 0, 0, paying, quiet_of (by decide),
     pool_of (by decide), by decide, by decide, by decide, by decide, ⟨by decide, 3, false, by decide⟩, by decide⟩,
   ⟨(reserved.paidBy { ejected with mode := some .retry, retry := 1 }).wired (.engine .p1) 0 .result, 1, .p1, 0, 0,
     paying, quiet_of (by decide), pool_of (by decide), by decide, by decide, by decide, by decide, ⟨by decide, 3,
     false, by decide⟩, by decide, by decide, by decide, by decide⟩,
   ⟨afterNone (awaiting .running .halt) [⟨1, 1⟩], 1, .p1, 0, 0, { paying with list := [⟨1, 1⟩] }, noneRead, [],
     .empty, quiet_of (by decide), pool_of (by decide), by decide, by decide, by decide, by decide, ⟨⟨by decide, 3,
     false, by decide⟩, by decide⟩, by decide, by decide, by decide, by decide,
     arbiters_of (by decide) (by decide) (by decide) (by decide), by decide, by decide, by decide,
     some_of_none (by decide), by decide, empty_queues (by decide) _, by decide⟩,
   ⟨afterNone (awaiting .running .cont) [], 1, .p1, 0, 0, { paying with list := [] }, noneRead, [], .low,
     quiet_of (by decide), pool_of (by decide), by decide, by decide, by decide, by decide, ⟨⟨by decide, 3, false,
     by decide⟩, by decide⟩, by decide, by decide, by decide, by decide,
     arbiters_of (by decide) (by decide) (by decide) (by decide), by decide, by decide, by decide,
     some_of_none (by decide), by decide, empty_queues (by decide) _, by decide, by decide, by decide⟩,
   ⟨afterNone (awaiting .running .retry) [⟨1, 1⟩], 1, .p1, 0, 0, { paying with list := [⟨1, 1⟩] }, noneRead, [],
     .empty, ⟨1, 1⟩, [], quiet_of (by decide), pool_of (by decide), by decide, by decide, by decide, by decide,
     ⟨⟨by decide, 3, false, by decide⟩, by decide⟩, by decide, by decide, by decide, by decide,
     arbiters_of (by decide) (by decide) (by decide) (by decide), by decide, by decide, by decide,
     some_of_none (by decide), by decide, by decide, by decide, by decide, by decide⟩,
   ⟨afterNone (awaiting .running .substitute) [⟨1, 1⟩], 1, .p1, 0, 0, { paying with list := [⟨1, 1⟩] }, noneRead,
     [], .full, ⟨1, 4⟩, [⟨2, 5⟩], [⟨1, 3⟩, ⟨2, 5⟩], quiet_of (by decide), pool_of (by decide), by decide, by decide,
     by decide, by decide, ⟨⟨by decide, 3, false, by decide⟩, by decide⟩, by decide, by decide, by decide,
     by decide, arbiters_of (by decide) (by decide) (by decide) (by decide), by decide, by decide, by decide,
     some_of_none (by decide), by decide, by decide, by decide, by decide +kernel, by decide, by decide +kernel,
     by decide⟩⟩

theorem witness_ResultsCountItems :
    (∃ (s : State) (station : BitVec 4) (e : EngineId) (i : Station) (outcome : EjectOutcome) (k : Nat), s.onWire
      station (.engine e) i .result false ∧ s.enginesQuiet ∧ ((outcome = .item ∧ k = 1) ∨ (outcome = .double ∧ k = 2))
      ∧ k ≤ (s.store i).count) ∧
    (∃ (s : State) (station : BitVec 4) (e : EngineId) (i : Station) (outcome : EjectOutcome) (k : Nat), ∃ j, s.onWire
      station (.engine e) i .result false ∧ s.enginesQuiet ∧ ((outcome = .item ∧ k = 1) ∨ (outcome = .double ∧ k = 2))
      ∧ k ≤ (s.store i).count ∧ j ≠ i) ∧
    (∃ (s : State) (station : BitVec 4) (e : EngineId) (i : Station) (outcome : EjectOutcome) (k : Nat), s.onWire
      station (.engine e) i .result false ∧ s.enginesQuiet ∧ ((outcome = .item ∧ k = 1) ∨ (outcome = .double ∧ k = 2))
      ∧ k ≤ (s.store i).count ∧ k = 1) ∧
    (∃ (s : State) (station : BitVec 4) (e : EngineId) (i : Station) (outcome : EjectOutcome) (k : Nat), s.onWire
      station (.engine e) i .result false ∧ s.enginesQuiet ∧ ((outcome = .item ∧ k = 1) ∨ (outcome = .double ∧ k = 2))
      ∧ k ≤ (s.store i).count ∧ k = 2) ∧
    (∃ (s : State) (station : BitVec 4) (e : EngineId) (i : Station) (outcome : EjectOutcome) (k : Nat), s.onWire
      station (.engine e) i .result false ∧ s.enginesQuiet ∧ ((outcome = .item ∧ k = 1) ∨ (outcome = .double ∧ k = 2))
      ∧ k ≤ (s.store i).count ∧ e ≠ .m) ∧
    (∃ (s : State) (station : BitVec 4) (e : EngineId) (i : Station) (outcome : EjectOutcome) (k : Nat), s.onWire
      station (.engine e) i .result false ∧ s.enginesQuiet ∧ ((outcome = .item ∧ k = 1) ∨ (outcome = .double ∧ k = 2))
      ∧ k ≤ (s.store i).count ∧ e = .m ∧ s.boxAgrees ∧ s.cashbox.state ≠ .removed ∧ s.cashbox.count + k ≤ 65535) ∧
    (∃ (s : State) (station : BitVec 4) (e : EngineId) (i : Station) (outcome : EjectOutcome) (k : Nat), s.onWire
      station (.engine e) i .result false ∧ s.enginesQuiet ∧ ((outcome = .item ∧ k = 1) ∨ (outcome = .double ∧ k = 2))
      ∧ k ≤ (s.store i).count ∧ e = .m ∧ s.boxAgrees ∧ s.cashbox.state ≠ .removed ∧ s.cashbox.value + k * (s.store
      i).cfg.denomination ≤ 9999999) ∧
    (∃ (s : State) (station : BitVec 4) (e : EngineId) (i : Station) (outcome : EjectOutcome) (k : Nat), s.onWire
      station (.engine e) i .result false ∧ s.enginesQuiet ∧ ((outcome = .item ∧ k = 1) ∨ (outcome = .double ∧ k = 2))
      ∧ k ≤ (s.store i).count ∧ e = .m ∧ s.boxAgrees ∧ s.cashbox.state ≠ .removed) ∧
    (∃ (s : State) (station : BitVec 4) (e : EngineId) (i : Station) (outcome : EjectOutcome) (k : Nat), s.onWire
      station (.engine e) i .result false ∧ s.enginesQuiet ∧ ((outcome = .item ∧ k = 1) ∨ (outcome = .double ∧ k = 2))
      ∧ k ≤ (s.store i).count ∧ e = .m ∧ s.boxAgrees ∧ s.cashbox.state = .removed ∧ s.cashbox.looseCount + k ≤ 65535) ∧
    (∃ (s : State) (station : BitVec 4) (e : EngineId) (i : Station) (outcome : EjectOutcome) (k : Nat), s.onWire
      station (.engine e) i .result false ∧ s.enginesQuiet ∧ ((outcome = .item ∧ k = 1) ∨ (outcome = .double ∧ k = 2))
      ∧ k ≤ (s.store i).count ∧ e = .m ∧ s.boxAgrees ∧ s.cashbox.state = .removed) ∧
    (∃ (s : State) (station : BitVec 4) (e : EngineId) (i : Station) (outcome : EjectOutcome) (k : Nat), s.onWire
      station (.engine e) i .result false ∧ s.enginesQuiet ∧ ((outcome = .item ∧ k = 1) ∨ (outcome = .double ∧ k = 2))
      ∧ k ≤ (s.store i).count ∧ e = .m ∧ s.boxAgrees) ∧
    (∃ (s : State) (station : BitVec 4) (e : EngineId) (i : Station) (outcome : EjectOutcome) (k : Nat), ∃ run,
      s.onWire station (.engine e) i .result false ∧ s.enginesQuiet ∧ ((outcome = .item ∧ k = 1) ∨ (outcome = .double
      ∧ k = 2)) ∧ k ≤ (s.store i).count ∧ e = .m ∧ (s.engine .m).run = some run) ∧
    (∃ (s : State) (station : BitVec 4) (e : EngineId) (i : Station) (outcome : EjectOutcome) (k : Nat), ∃ p j r,
      s.onWire station (.engine e) i .result false ∧ s.enginesQuiet ∧ ((outcome = .item ∧ k = 1) ∨ (outcome = .double
      ∧ k = 2)) ∧ k ≤ (s.store i).count ∧ e = pointEngine p ∧ (s.engine e).record = some r.tag ∧ s.slot j = some r ∧
      s.tagsDistinct ∧ r.listFormed ∧ 2 ≤ itemsAt r.list i ∧ (s.engine e).state = .running ∧ (s.engine e).station =
      some i ∧ (s.engine e).run = none ∧ (s.store i).working = true ∧ (s.store i).reserved + k ≤ (s.store i).count + 1
      ∧ (s.store i).burst + k < 8) ∧
    (∃ (s : State) (station : BitVec 4) (e : EngineId) (i : Station) (outcome : EjectOutcome) (k : Nat), ∃ p j r,
      s.onWire station (.engine e) i .result false ∧ s.enginesQuiet ∧ ((outcome = .item ∧ k = 1) ∨ (outcome = .double
      ∧ k = 2)) ∧ k ≤ (s.store i).count ∧ e = pointEngine p ∧ (s.engine e).record = some r.tag ∧ s.slot j = some r ∧
      s.poolAgrees ∧ (s.engine e).state = .running ∧ (s.engine e).station = some i ∧ (s.engine e).run = none ∧
      (s.store i).working = true ∧ (s.store i).reserved + k ≤ (s.store i).count + 1 ∧ 2 ≤ itemsAt r.list i ∧
      r.list.head?.map Entry.station = some i ∧ 8 ≤ (s.store i).burst + k ∧ (s.store i).holder = some e ∧ (s.store
      i).waiting = []) ∧
    (∃ (s : State) (station : BitVec 4) (e : EngineId) (i : Station) (outcome : EjectOutcome) (k : Nat), ∃ p j r d ds,
      s.onWire station (.engine e) i .result false ∧ s.enginesQuiet ∧ ((outcome = .item ∧ k = 1) ∨ (outcome = .double
      ∧ k = 2)) ∧ k ≤ (s.store i).count ∧ e = pointEngine p ∧ (s.engine e).record = some r.tag ∧ s.slot j = some r ∧
      s.poolAgrees ∧ (s.engine e).state = .running ∧ (s.engine e).station = some i ∧ (s.engine e).run = none ∧
      (s.store i).working = true ∧ (s.store i).reserved + k ≤ (s.store i).count + 1 ∧ 2 ≤ itemsAt r.list i ∧
      r.list.head?.map Entry.station = some i ∧ 8 ≤ (s.store i).burst + k ∧ (s.store i).holder = some e ∧ (s.store
      i).waiting = d :: ds ∧ s.arbitersSound) ∧
    (∃ (s : State) (station : BitVec 4) (e : EngineId) (i : Station) (outcome : EjectOutcome) (k : Nat), ∃ p j r,
      s.onWire station (.engine e) i .result false ∧ s.enginesQuiet ∧ ((outcome = .item ∧ k = 1) ∨ (outcome = .double
      ∧ k = 2)) ∧ k ≤ (s.store i).count ∧ e = pointEngine p ∧ (s.engine e).record = some r.tag ∧ s.slot j = some r ∧
      s.poolAgrees ∧ (s.engine e).state = .running ∧ (s.engine e).station = some i ∧ (s.engine e).run = none ∧
      (s.store i).working = true ∧ (s.store i).reserved + k ≤ (s.store i).count + 1 ∧ itemsAt r.list i = 1 ∧ (s.store
      i).waiting = [] ∧ s.arbitersSound) ∧
    (∃ (s : State) (station : BitVec 4) (e : EngineId) (i : Station) (outcome : EjectOutcome) (k : Nat), ∃ p j r en
      rest, s.onWire station (.engine e) i .result false ∧ s.enginesQuiet ∧ ((outcome = .item ∧ k = 1) ∨ (outcome =
      .double ∧ k = 2)) ∧ k ≤ (s.store i).count ∧ e = pointEngine p ∧ (s.engine e).record = some r.tag ∧ s.slot j =
      some r ∧ s.poolAgrees ∧ (s.engine e).state = .running ∧ (s.engine e).station = some i ∧ (s.engine e).run = none
      ∧ (s.store i).working = true ∧ (s.store i).reserved + k ≤ (s.store i).count + 1 ∧ itemsAt r.list i = 1 ∧
      (s.store i).waiting = [] ∧ s.arbitersSound ∧ r.list.filter (fun x => x.station != i) = en :: rest ∧ (s.store
      en.station).working = true) ∧
    (∃ (s : State) (station : BitVec 4) (e : EngineId) (i : Station) (outcome : EjectOutcome) (k : Nat), ∃ p j r,
      s.onWire station (.engine e) i .result false ∧ s.enginesQuiet ∧ ((outcome = .item ∧ k = 1) ∨ (outcome = .double
      ∧ k = 2)) ∧ k ≤ (s.store i).count ∧ e = pointEngine p ∧ (s.engine e).record = some r.tag ∧ s.slot j = some r ∧
      s.poolAgrees ∧ (s.engine e).state = .running ∧ (s.engine e).station = some i ∧ (s.engine e).run = none ∧
      (s.store i).working = true ∧ (s.store i).reserved + k ≤ (s.store i).count + 1 ∧ itemsAt r.list i = 1 ∧ (s.store
      i).waiting = [] ∧ s.arbitersSound ∧ r.list.filter (fun x => x.station != i) = [] ∧ (s.point p).queueSettled) ∧
    (∃ (s : State) (station : BitVec 4) (e : EngineId) (i : Station) (outcome : EjectOutcome) (k : Nat), ∃ j q,
      s.onWire station (.engine e) i .result false ∧ s.enginesQuiet ∧ ((outcome = .item ∧ k = 1) ∨ (outcome = .double
      ∧ k = 2)) ∧ k ≤ (s.store i).count ∧ e = .m ∧ s.poolAgrees ∧ s.arbitersSound ∧ (s.engine .m).station = some i ∧
      (s.store i).working = true ∧ s.youngestHolder i j q ∧ (s.store i).count < (s.store i).reserved + k ∧ q.state =
      .settled ∧ (s.store i).reserved + k ≤ (s.store i).count + itemsAt q.list i) ∧
    (∃ (s : State) (station : BitVec 4) (e : EngineId) (i : Station) (outcome : EjectOutcome) (k : Nat), ∃ j q,
      s.onWire station (.engine e) i .result false ∧ s.enginesQuiet ∧ ((outcome = .item ∧ k = 1) ∨ (outcome = .double
      ∧ k = 2)) ∧ k ≤ (s.store i).count ∧ e = .m ∧ s.poolAgrees ∧ s.arbitersSound ∧ (s.engine .m).station = some i ∧
      (s.store i).working = true ∧ s.youngestHolder i j q ∧ (s.store i).count < (s.store i).reserved + k ∧ q.state =
      .paying ∧ (∀ j' q', s.slot j' = some q' → q'.state = .settled → listHas q'.list i = false) ∧ (s.store
      i).reserved + k < (s.store i).count + itemsAt q.list i) ∧
    (∃ (s : State) (station : BitVec 4) (e : EngineId) (i : Station) (outcome : EjectOutcome) (k : Nat), ∃ j, s.onWire
      station (.engine e) i .result false ∧ s.enginesQuiet ∧ ((outcome = .item ∧ k = 1) ∨ (outcome = .double ∧ k = 2))
      ∧ k ≤ (s.store i).count ∧ (s.payRecord e).map Prod.fst = some j) :=
  ⟨⟨(reserved.paidBy ejected).wired (.engine .p1) 0 .result, 1, .p1, 0, .item, 1, ⟨by decide, 3, false, by decide⟩,
    quiet_of (by decide), by decide, by decide⟩,
   ⟨(reserved.paidBy ejected).wired (.engine .p1) 0 .result, 1, .p1, 0, .item, 1, 1, ⟨by decide, 3, false,
     by decide⟩, quiet_of (by decide), by decide, by decide, by decide⟩,
   ⟨(reserved.paidBy ejected).wired (.engine .p1) 0 .result, 1, .p1, 0, .item, 1, ⟨by decide, 3, false, by decide⟩,
     quiet_of (by decide), by decide, by decide, by decide⟩,
   ⟨(reserved.paidBy ejected).wired (.engine .p1) 0 .result, 1, .p1, 0, .double, 2, ⟨by decide, 3, false,
     by decide⟩, quiet_of (by decide), by decide, by decide, by decide⟩,
   ⟨(reserved.paidBy ejected).wired (.engine .p1) 0 .result, 1, .p1, 0, .double, 2, ⟨by decide, 3, false,
     by decide⟩, quiet_of (by decide), by decide, by decide, by decide⟩,
   ⟨(shop.setEngine .m skimEjecting).wired (.engine .m) 2 .result, 3, .m, 2, .double, 2, ⟨by decide, 3, false,
     by decide⟩, quiet_of (by decide), by decide, by decide, by decide, by unfold State.boxAgrees; decide,
     by decide, by decide⟩,
   ⟨(shop.setEngine .m skimEjecting).wired (.engine .m) 2 .result, 3, .m, 2, .double, 2, ⟨by decide, 3, false,
     by decide⟩, quiet_of (by decide), by decide, by decide, by decide, by unfold State.boxAgrees; decide,
     by decide, by decide⟩,
   ⟨(shop.setEngine .m skimEjecting).wired (.engine .m) 2 .result, 3, .m, 2, .double, 2, ⟨by decide, 3, false,
     by decide⟩, quiet_of (by decide), by decide, by decide, by decide, by unfold State.boxAgrees; decide,
     by decide⟩,
   ⟨((shop.setCashbox ⟨7, 700, 65533, 0, .out, .removed⟩).setEngine .m skimEnding).wired (.engine .m) 2 .result, 3,
     .m, 2, .double, 2, ⟨by decide, 3, false, by decide⟩, quiet_of (by decide), by decide, by decide, by decide,
     by unfold State.boxAgrees; decide, by decide, by decide⟩,
   ⟨((shop.setCashbox ⟨7, 700, 65533, 0, .out, .removed⟩).setEngine .m skimEnding).wired (.engine .m) 2 .result, 3,
     .m, 2, .double, 2, ⟨by decide, 3, false, by decide⟩, quiet_of (by decide), by decide, by decide, by decide,
     by unfold State.boxAgrees; decide, by decide⟩,
   ⟨(shop.setEngine .m skimEjecting).wired (.engine .m) 2 .result, 3, .m, 2, .double, 2, ⟨by decide, 3, false,
     by decide⟩, quiet_of (by decide), by decide, by decide, by decide, by unfold State.boxAgrees; decide⟩,
   ⟨(shop.setEngine .m skimEjecting).wired (.engine .m) 2 .result, 3, .m, 2, .double, 2, ⟨.skim, 2, 5, 0⟩,
     ⟨by decide, 3, false, by decide⟩, quiet_of (by decide), by decide, by decide, by decide, by decide⟩,
   ⟨resulting [⟨0, 2⟩, ⟨1, 1⟩] 5, 1, .p1, 0, .double, 2, .p1, 0, { paying with list := [⟨0, 2⟩, ⟨1, 1⟩] },
     ⟨by decide, 3, false, by decide⟩, quiet_of (by decide), by decide, by decide, by decide, by decide, by decide,
     tags_of (by decide), by unfold Rec.listFormed; decide, by decide, by decide, by decide, by decide, by decide,
     by decide, by decide⟩,
   ⟨resulting [⟨0, 2⟩, ⟨1, 1⟩] 6, 1, .p1, 0, .double, 2, .p1, 0, { paying with list := [⟨0, 2⟩, ⟨1, 1⟩] },
     ⟨by decide, 3, false, by decide⟩, quiet_of (by decide), by decide, by decide, by decide, by decide, by decide,
     pool_of (by decide), by decide, by decide, by decide, by decide, by decide, by decide, by decide, by decide,
     by decide, by decide⟩,
   ⟨contested, 1, .p1, 0, .item, 1, .p1, 0, { paying with list := [⟨0, 2⟩] }, .m, [], ⟨by decide, 3, false,
     by decide⟩, quiet_of (by decide), by decide, by decide, by decide, by decide, by decide, pool_of (by decide),
     by decide, by decide, by decide, by decide, by decide, by decide, by decide, by decide, by decide, by decide,
     arbiters_of (by decide) (by decide) (by decide) (by decide)⟩,
   ⟨resulting [⟨0, 1⟩, ⟨1, 1⟩] 0, 1, .p1, 0, .double, 2, .p1, 0, { paying with list := [⟨0, 1⟩, ⟨1, 1⟩] },
     ⟨by decide, 3, false, by decide⟩, quiet_of (by decide), by decide, by decide, by decide, by decide, by decide,
     pool_of (by decide), by decide, by decide, by decide, by decide, by decide, by decide, by decide,
     arbiters_of (by decide) (by decide) (by decide) (by decide)⟩,
   ⟨resulting [⟨0, 1⟩, ⟨1, 1⟩] 0, 1, .p1, 0, .item, 1, .p1, 0, { paying with list := [⟨0, 1⟩, ⟨1, 1⟩] }, ⟨1, 1⟩, [],
     ⟨by decide, 3, false, by decide⟩, quiet_of (by decide), by decide, by decide, by decide, by decide, by decide,
     pool_of (by decide), by decide, by decide, by decide, by decide, by decide, by decide, by decide,
     arbiters_of (by decide) (by decide) (by decide) (by decide), by decide, by decide⟩,
   ⟨resulting [⟨0, 1⟩] 0, 1, .p1, 0, .item, 1, .p1, 0, { paying with list := [⟨0, 1⟩] }, ⟨by decide, 3, false,
     by decide⟩, quiet_of (by decide), by decide, by decide, by decide, by decide, by decide, pool_of (by decide),
     by decide, by decide, by decide, by decide, by decide, by decide, by decide,
     arbiters_of (by decide) (by decide) (by decide) (by decide), by decide, empty_queues (by decide) _⟩,
   ⟨skimmed { settled with list := [⟨0, 5⟩] }, 1, .m, 0, .item, 1, 0, { settled with list := [⟨0, 5⟩] }, ⟨by decide,
     3, false, by decide⟩, quiet_of (by decide), by decide, by decide, by decide, pool_of (by decide),
     arbiters_of (by decide) (by decide) (by decide) (by decide), by decide, by decide, ⟨by decide, by decide,
     slots_of (by unfold Later; decide)⟩, by decide, by decide, by decide⟩,
   ⟨skimmed { paying with list := [⟨0, 5⟩] }, 1, .m, 0, .double, 2, 0, { paying with list := [⟨0, 5⟩] }, ⟨by decide,
     3, false, by decide⟩, quiet_of (by decide), by decide, by decide, by decide, pool_of (by decide),
     arbiters_of (by decide) (by decide) (by decide) (by decide), by decide, by decide, ⟨by decide, by decide,
     slots_of (by unfold Later; decide)⟩, by decide, by decide, slots_of (by decide), by decide⟩,
   ⟨(reserved.paidBy ejected).wired (.engine .p1) 0 .result, 1, .p1, 0, .double, 2, 0, ⟨by decide, 3, false,
     by decide⟩, quiet_of (by decide), by decide, by decide, by decide⟩⟩

theorem witness_PendingResultsAreAskedAgain :
    (∃ (s : State) (station : BitVec 4) (e : EngineId) (i : Station) (o : Outstanding), s.enginesQuiet ∧ s.bus.sound ∧
      s.chainsOrdered ∧ (s.engine e).outstanding = some o ∧ o.station = i ∧ s.onWire station (.engine e) i .result
      false ∧ age s.time o.repliedAt < (s.store i).cfg.window + 20) ∧
    (∃ (s : State) (e : EngineId) (i : Station) (o : Outstanding), s.enginesQuiet ∧ s.bus.sound ∧ s.chainsOrdered ∧
      (s.engine e).outstanding = some o ∧ o.station = i ∧ (s.engine e).needs = none) ∧
    (∃ (s : State) (e : EngineId) (i : Station) (o : Outstanding), s.enginesQuiet ∧ s.bus.sound ∧ s.chainsOrdered ∧
      (s.engine e).outstanding = some o ∧ o.station = i ∧ s.onBus e .result = false ∧ (s.store i).ejectRecord.isSome =
      true) ∧
    (∃ (s : State) (e : EngineId) (i : Station) (o : Outstanding), ∃ p j r, s.enginesQuiet ∧ s.bus.sound ∧
      s.chainsOrdered ∧ (s.engine e).outstanding = some o ∧ o.station = i ∧ e = pointEngine p ∧ s.poolAgrees ∧
      (s.engine e).station = some i ∧ (s.store i).working = true ∧ (s.engine e).record = some r.tag ∧ s.slot j = some
      r ∧ s.onBus e .result = false) ∧
    (∃ (s : State) (station : BitVec 4) (e : EngineId) (i : Station) (o : Outstanding), ∃ p j r, s.enginesQuiet ∧
      s.bus.sound ∧ s.chainsOrdered ∧ (s.engine e).outstanding = some o ∧ o.station = i ∧ e = pointEngine p ∧
      s.poolAgrees ∧ (s.engine e).station = some i ∧ (s.store i).working = true ∧ (s.engine e).record = some r.tag ∧
      s.slot j = some r ∧ s.onWire station (.engine e) i .result false ∧ (s.store i).cfg.window + 20 ≤ age s.time
      o.repliedAt) :=
  ⟨⟨(reserved.paidBy ejected).wired (.engine .p1) 0 .result, 1, .p1, 0, ⟨0, .cupP1, 0, 0⟩, quiet_of (by decide),
    by unfold Bus.sound; decide, by unfold State.chainsOrdered StoreCfg.inOrder; decide, by decide, by decide,
    ⟨by decide, 3, false, by decide⟩, by decide⟩,
   ⟨reserved.paidBy ejected, .p1, 0, ⟨0, .cupP1, 0, 0⟩, quiet_of (by decide), by unfold Bus.sound; decide,
     by unfold State.chainsOrdered StoreCfg.inOrder; decide, by decide, by decide, by decide⟩,
   ⟨(reserved.paidBy ejected).updStore 0 (fun r => { r with ejectRecord := some ⟨.p1, .cupP1⟩ }), .p1, 0, ⟨0,
     .cupP1, 0, 0⟩, quiet_of (by decide), by unfold Bus.sound; decide,
     by unfold State.chainsOrdered StoreCfg.inOrder; decide, by decide, by decide, by decide, by decide⟩,
   ⟨reserved.paidBy ejected, .p1, 0, ⟨0, .cupP1, 0, 0⟩, .p1, 0, paying, quiet_of (by decide),
     by unfold Bus.sound; decide, by unfold State.chainsOrdered StoreCfg.inOrder; decide, by decide, by decide,
     by decide, pool_of (by decide), by decide, by decide, by decide, by decide, by decide⟩,
   ⟨((reserved.paidBy ejected).wired (.engine .p1) 0 .result).setTime 50, 1, .p1, 0, ⟨0, .cupP1, 0, 0⟩, .p1, 0,
     paying, quiet_of (by decide), by unfold Bus.sound; decide,
     by unfold State.chainsOrdered StoreCfg.inOrder; decide, by decide, by decide, by decide, pool_of (by decide),
     by decide, by decide, by decide, by decide, ⟨by decide, 3, false, by decide⟩, by decide⟩⟩

theorem witness_TheBusPassesInRounds :
    (∃ (b : Bus), ∃ r rest, b.waiting.Nodup ∧ b.round = r :: rest) ∧
    (∃ (b : Bus), b.waiting.Nodup ∧ b.round = []) ∧
    (∃ (b : Bus), b.waiting.Nodup) :=
  ⟨⟨{ Bus.reset with round := [.poller], waiting := [.reconciler] }, .poller, [], by decide, by decide⟩,
   ⟨{ Bus.reset with waiting := [.poller, .engine .m] }, by decide, by decide⟩,
   ⟨{ Bus.reset with waiting := [.poller, .engine .m] }, by decide⟩⟩

theorem witness_GrantsSendTheRequest :
    (∃ (s : State), s.bus.exchange = none ∧ s.bus.polling = false ∧ s.enginesQuiet ∧ s.startUp.settling = true) ∧
    (∃ (s : State) (e : EngineId) (i : Station), s.bus.exchange = none ∧ s.bus.polling = false ∧ s.enginesQuiet ∧
      s.startUp.settling = false ∧ s.bus.holder = some (.engine e) ∧ (s.engine e).station = some i ∧ (s.engine
      e).needs = some .divert) ∧
    (∃ (s : State) (e : EngineId) (i : Station), s.bus.exchange = none ∧ s.bus.polling = false ∧ s.enginesQuiet ∧
      s.startUp.settling = false ∧ s.bus.holder = some (.engine e) ∧ (s.engine e).station = some i ∧ (s.engine
      e).needs = some .eject ∧ s.ejectAllowed e = true) ∧
    (∃ (s : State) (e : EngineId) (o : Outstanding), s.bus.exchange = none ∧ s.bus.polling = false ∧ s.enginesQuiet ∧
      s.startUp.settling = false ∧ s.bus.holder = some (.engine e) ∧ (s.engine e).needs = some .result ∧ (s.engine
      e).outstanding = some o) ∧
    (∃ (s : State) (w : Work) (rest : List Work) (op : RecOp) (ops : List RecOp), s.bus.exchange = none ∧
      s.bus.polling = false ∧ s.enginesQuiet ∧ s.startUp.settling = false ∧ s.bus.holder = some .reconciler ∧
      s.reconciler.work = w :: rest ∧ w.ops = op :: ops ∧ w.paused = false) ∧
    (∃ (s : State), s.bus.exchange = none ∧ s.bus.polling = false ∧ s.enginesQuiet ∧ s.startUp.settling = false ∧
      s.bus.holder = some .poller) :=
  ⟨⟨(shop.setStartUp ⟨false, true, 0, false⟩).granted .poller, by decide, by decide, quiet_of (by decide),
    by decide⟩,
   ⟨(reserved.paidBy { payer with needs := some .divert }).granted (.engine .p1), .p1, 0, by decide, by decide,
     quiet_of (by decide), by decide, by decide, by decide, by decide⟩,
   ⟨(reserved.paidBy { payer with needs := some .eject }).granted (.engine .p1), .p1, 0, by decide, by decide,
     quiet_of (by decide), by decide, by decide, by decide, by decide, by decide⟩,
   ⟨(reserved.paidBy { ejected with needs := some .result }).granted (.engine .p1), .p1, ⟨0, .cupP1, 0, 0⟩,
     by decide, by decide, quiet_of (by decide), by decide, by decide, by decide, by decide⟩,
   ⟨(shop.setReconciler ⟨[verifyRead 0], []⟩).granted .reconciler, verifyRead 0, [], .band, [], by decide,
     by decide, quiet_of (by decide), by decide, by decide, by decide, by decide, by decide⟩,
   ⟨shop.granted .poller, by decide, by decide, quiet_of (by decide), by decide, by decide⟩⟩

theorem witness_FailedExchangesTakeTheStoreOffline :
    (∃ (s : State) (x : Exchange), s.bus.exchange = some x ∧ x.repeated = false) ∧
    (∃ (s : State) (x : Exchange), s.bus.exchange = some x ∧ x.repeated = true) ∧
    (∃ (s : State) (station : BitVec 4) (x : Exchange), s.bus.exchange = some x ∧ replyStation station = some
      x.station) :=
  ⟨⟨shop.wired .reconciler 11 .status, ⟨.reconciler, 11, .status, 3, false, false⟩, by decide, by decide⟩,
   ⟨shop.setBus { Bus.reset with holder := some .reconciler, exchange := some ⟨.reconciler, 0, .band, 3, true,
     false⟩ }, ⟨.reconciler, 0, .band, 3, true, false⟩, by decide, by decide⟩,
   ⟨shop.wired .reconciler 11 .status, 12, ⟨.reconciler, 11, .status, 3, false, false⟩, by decide, by decide⟩⟩

theorem witness_ItemsAreRouted :
    (∃ (s : State) (p : PointId) (c : Credit) (i : Station), (s.point p).outgoing = some c ∧ (s.point p).releaseOwed =
      [] ∧ s.bus.holder = some (.intake p) ∧ s.bus.exchange = none ∧ s.bus.polling = false ∧ s.startUp.settling =
      false ∧ (s.store i).cfg.denomination = c.denomination ∧ (s.store i).accepts = true ∧ (∀ j, (s.store
      j).cfg.denomination = c.denomination → (s.store j).accepts = true → j ≠ i → (s.store i).count < (s.store
      j).count ∨ ((s.store i).count = (s.store j).count ∧ i < j)) ∧ s.enginesQuiet) ∧
    (∃ (s : State) (p : PointId) (c : Credit), (s.point p).outgoing = some c ∧ (s.point p).releaseOwed = [] ∧
      s.bus.holder = some (.intake p) ∧ s.bus.exchange = none ∧ s.bus.polling = false ∧ s.startUp.settling = false ∧
      (∀ j, (s.store j).cfg.denomination = c.denomination → (s.store j).accepts = false) ∧ s.cashbox.state ≠ .removed
      ∧ s.cashbox.count < 65535 ∧ s.cashbox.value + c.denomination ≤ 9999999) ∧
    (∃ (s : State) (p : PointId) (c : Credit) (i : Station) (station : BitVec 4), (s.point p).outgoing = some c ∧
      (s.point p).releaseOwed = [] ∧ s.onWire station (.intake p) i (.divert (fillDest p)) false ∧ (s.store i).count <
      (s.store i).cfg.capacity) ∧
    (∃ (s : State) (p : PointId) (c : Credit) (i : Station) (station : BitVec 4), (s.point p).outgoing = some c ∧
      (s.point p).releaseOwed = [] ∧ s.onWire station (.intake p) i (.divert (fillDest p)) false ∧ (s.store i).count =
      (s.store i).cfg.capacity) ∧
    (∃ (s : State) (p : PointId) (c : Credit) (i : Station) (station : BitVec 4), (s.point p).outgoing = some c ∧
      (s.point p).releaseOwed = [] ∧ s.onWire station (.intake p) i (.divert (fillDest p)) false ∧ s.cashbox.state ≠
      .removed ∧ s.cashbox.count < 65535 ∧ s.cashbox.value + c.denomination ≤ 9999999) ∧
    (∃ (s : State) (p : PointId) (c : Credit), (s.point p).outgoing = some c ∧ (s.point p).releaseOwed = [] ∧
      s.bus.holder = some (.intake p) ∧ s.bus.exchange = none ∧ s.bus.polling = false ∧ s.startUp.settling = false ∧
      (∀ j, (s.store j).cfg.denomination = c.denomination → (s.store j).accepts = false) ∧ s.cashbox.state ≠ .removed
      ∧ s.cashbox.count < 65535 ∧ s.cashbox.value + c.denomination ≤ 9999999 ∧ s.boxAgrees) ∧
    (∃ (s : State) (p : PointId) (c : Credit) (i : Station) (station : BitVec 4), (s.point p).outgoing = some c ∧
      (s.point p).releaseOwed = [] ∧ s.onWire station (.intake p) i (.divert (fillDest p)) false ∧ s.cashbox.state ≠
      .removed ∧ s.cashbox.count < 65535 ∧ s.cashbox.value + c.denomination ≤ 9999999 ∧ s.boxAgrees) :=
  ⟨⟨shop.routing.granted (.intake .p1), .p1, ⟨4, 50, 0, none, true⟩, 1, by decide, by decide, by decide, by decide,
    by decide, by decide, by decide, by decide, by decide, quiet_of (by decide)⟩,
   ⟨(shop.storeIn 1 .jammed).routing.granted (.intake .p1), .p1, ⟨4, 50, 0, none, true⟩, by decide, by decide,
     by decide, by decide, by decide, by decide, by decide, by decide, by decide, by decide⟩,
   ⟨shop.routing.wired (.intake .p1) 1 (.divert .fillP1), .p1, ⟨4, 50, 0, none, true⟩, 1, 2, by decide, by decide,
     ⟨by decide, 3, false, by decide⟩, by decide⟩,
   ⟨(shop.routing.wired (.intake .p1) 1 (.divert .fillP1)).updStore 1 (fun r =>
       { r with cfg := { r.cfg with capacity := r.count } }), .p1, ⟨4, 50, 0, none, true⟩, 1, 2, by decide, by decide,
     ⟨by decide, 3, false, by decide⟩, by decide⟩,
   ⟨shop.routing.wired (.intake .p1) 1 (.divert .fillP1), .p1, ⟨4, 50, 0, none, true⟩, 1, 2, by decide, by decide,
     ⟨by decide, 3, false, by decide⟩, by decide, by decide, by decide⟩,
   ⟨(shop.storeIn 1 .jammed).routing.granted (.intake .p1), .p1, ⟨4, 50, 0, none, true⟩, by decide, by decide,
     by decide, by decide, by decide, by decide, by decide, by decide, by decide, by decide,
     by unfold State.boxAgrees; decide⟩,
   ⟨shop.routing.wired (.intake .p1) 1 (.divert .fillP1), .p1, ⟨4, 50, 0, none, true⟩, 1, 2, by decide, by decide,
     ⟨by decide, 3, false, by decide⟩, by decide, by decide, by decide, by unfold State.boxAgrees; decide⟩⟩

theorem witness_AttentionIsServed :
    (∃ (s : State), s.enginesQuiet ∧ s.startUp.ended = true ∧ s.bus.poller = .quiet ∧ s.bus.sound) ∧
    (∃ (s : State) (slots : List (Option Byte)), s.enginesQuiet ∧ s.bus.polling = true ∧ attentionSet slots &&&
      s.system.attention = 0#12) ∧
    (∃ (s : State) (slots : List (Option Byte)), s.enginesQuiet ∧ s.bus.polling = true ∧ attentionSet slots &&&
      s.system.attention ≠ 0#12 ∧ (∀ x ∈ s.reconciler.work, s.stays x)) ∧
    (∃ (s : State) (station : BitVec 4) (w : Work) (rest : List Work), s.enginesQuiet ∧ s.workOnWire station w rest
      .clearAttn ∧ w.ops = [.clearAttn] ∧ w.cause = .service ∧ (∀ x ∈ rest, s.stays x)) ∧
    (∃ (s : State), ∃ at_, s.enginesQuiet ∧ s.startUp.ended = true ∧ s.bus.poller = .quiet ∧ s.bus.sound ∧
      s.bus.serviceEnd = some at_) :=
  ⟨⟨shop, quiet_of (by decide), by decide, by decide, by unfold Bus.sound; decide⟩,
   ⟨shop.setBus { Bus.reset with holder := some .poller, polling := true, poller := .polling },
     List.replicate 12 none, quiet_of (by decide), by decide, by decide⟩,
   ⟨shop.setBus { Bus.reset with holder := some .poller, polling := true, poller := .polling },
     some attentionMark :: List.replicate 11 none, quiet_of (by decide), by decide, by decide,
     by unfold State.stays; decide⟩,
   ⟨shop.work7 (newWork 11 .service [.clearAttn]) .clearAttn, 12, newWork 11 .service [.clearAttn], [],
     quiet_of (by decide), ⟨⟨by decide, 3, false, by decide⟩, by decide⟩, by decide, by decide,
     by unfold State.stays; decide⟩,
   ⟨shop.setBus { Bus.reset with serviceEnd := some 0 }, 0, quiet_of (by decide), by decide, by decide,
     by unfold Bus.sound; decide, by decide⟩⟩

theorem witness_SettingsAreSent :
    (∃ (s : State) (station : BitVec 4) (w : Work) (rest : List Work) (units : Nat), s.enginesQuiet ∧ (w.cause =
      .settings ∨ w.cause = .startSettings) ∧ (∀ x ∈ w :: rest, s.stays x) ∧ s.workOnWire station w rest (.window
      units) ∧ w.ops = [.window, .stage] ∧ s.settable w.station = true) ∧
    (∃ (s : State) (station : BitVec 4) (w : Work) (rest : List Work), s.enginesQuiet ∧ (w.cause = .settings ∨ w.cause
      = .startSettings) ∧ (∀ x ∈ w :: rest, s.stays x) ∧ w.ops = [.stage] ∧ w.stale = false ∧ rest.any (fun x =>
      x.isSettings w.station) = false ∧ s.workOnWire station w rest .stageOn) ∧
    (∃ (s : State) (station : BitVec 4) (w : Work) (rest : List Work), s.enginesQuiet ∧ (w.cause = .settings ∨ w.cause
      = .startSettings) ∧ (∀ x ∈ w :: rest, s.stays x) ∧ w.ops = [.stage] ∧ w.stale = false ∧ rest.any (fun x =>
      x.isSettings w.station) = false ∧ s.workOnWire station w rest .stageOff) :=
  ⟨⟨shop.work7 (newWork 0 .settings [.window, .stage]) (.window 30), 1, newWork 0 .settings [.window, .stage], [],
    30, quiet_of (by decide), by decide, by unfold State.stays; decide, ⟨⟨by decide, 3, false, by decide⟩,
    by decide⟩, by decide, by decide⟩,
   ⟨shop.work7 (newWork 0 .settings [.stage]) .stageOn, 1, newWork 0 .settings [.stage], [], quiet_of (by decide),
     by decide, by unfold State.stays; decide, by decide, by decide, by decide, ⟨⟨by decide, 3, false, by decide⟩,
     by decide⟩⟩,
   ⟨shop.work7 (newWork 0 .startSettings [.stage]) .stageOff, 1, newWork 0 .startSettings [.stage], [],
     quiet_of (by decide), by decide, by unfold State.stays; decide, by decide, by decide, by decide, ⟨⟨by decide,
     3, false, by decide⟩, by decide⟩⟩⟩

theorem witness_RefillCommandsPlaceTheirExchange :
    (∃ (s : State) (f : ByteFields), stationOf f.value = none ∧ s.ready .m .refillBegin) ∧
    (∃ (s : State) (f : ByteFields), stationOf f.value = none ∧ s.ready .m .refillEnd) ∧
    (∃ (s : State) (f : ByteFields), stationOf f.value = none ∧ s.ready .m .refillCancel) ∧
    (∃ (s : State) (f : ByteFields) (i : Station), stationOf f.value = some i ∧ s.enginesQuiet ∧ s.ready .m
      .refillBegin ∧ (s.store i).working = true ∧ (s.store i).reserved = 0 ∧ (s.store i).holder = none ∧ (∀ e,
      (s.engine e).bandAwaited ≠ some i)) ∧
    (∃ (s : State) (f : ByteFields) (i : Station), stationOf f.value = some i ∧ s.enginesQuiet ∧ s.ready .m
      .refillBegin ∧ ((s.store i).working = false ∨ 0 < (s.store i).reserved ∨ (s.store i).holder ≠ none)) ∧
    (∃ (s : State) (f : ByteFields) (i : Station), stationOf f.value = some i ∧ s.enginesQuiet ∧ s.ready .m .refillEnd
      ∧ (s.store i).state = .refill) ∧
    (∃ (s : State) (f : ByteFields) (i : Station), stationOf f.value = some i ∧ s.enginesQuiet ∧ s.ready .m .refillEnd
      ∧ (s.store i).state ≠ .refill) ∧
    (∃ (s : State) (f : ByteFields) (i : Station), stationOf f.value = some i ∧ s.enginesQuiet ∧ s.ready .m
      .refillCancel ∧ (s.store i).state = .refill) ∧
    (∃ (s : State) (f : ByteFields) (i : Station), stationOf f.value = some i ∧ s.enginesQuiet ∧ s.ready .m
      .refillCancel ∧ (s.store i).state ≠ .refill) :=
  ⟨⟨shop, ⟨0⟩, by decide, by unfold State.ready; decide⟩,
   ⟨shop, ⟨0⟩, by decide, by unfold State.ready; decide⟩,
   ⟨shop, ⟨0⟩, by decide, by unfold State.ready; decide⟩,
   ⟨shop, ⟨1⟩, 0, by decide, quiet_of (by decide), by unfold State.ready; decide, by decide, by decide, by decide,
     engines_of (by decide)⟩,
   ⟨reserved, ⟨1⟩, 0, by decide, quiet_of (by decide), by unfold State.ready; decide, by decide⟩,
   ⟨shop.storeIn 0 .refill, ⟨1⟩, 0, by decide, quiet_of (by decide), by unfold State.ready; decide, by decide⟩,
   ⟨shop, ⟨1⟩, 0, by decide, quiet_of (by decide), by unfold State.ready; decide, by decide⟩,
   ⟨shop.storeIn 0 .refill, ⟨1⟩, 0, by decide, quiet_of (by decide), by unfold State.ready; decide, by decide⟩,
   ⟨shop, ⟨1⟩, 0, by decide, quiet_of (by decide), by unfold State.ready; decide, by decide⟩⟩

theorem witness_RefillExchangesAnswer :
    (∃ (s : State) (station : BitVec 4) (w : Work) (rest : List Work) (quiet : Bool), s.enginesQuiet ∧ (s.store
      w.station).state = .refill ∧ s.workOnWire station w rest .fillOpen ∧ w.cause = .refillBegin quiet ∧ w.ops =
      [.fillOpen]) ∧
    (∃ (s : State) (station : BitVec 4) (w : Work) (rest : List Work) (quiet : Bool), s.enginesQuiet ∧ (s.store
      w.station).state ≠ .refill ∧ s.workOnWire station w rest .fillOpen ∧ w.cause = .refillBegin quiet ∧ w.ops =
      [.fillOpen]) ∧
    (∃ (s : State) (station : BitVec 4) (w : Work) (rest : List Work) (quiet : Bool), s.enginesQuiet ∧ (s.store
      w.station).state ≠ .refill ∧ s.workOnWire station w rest .fillClose ∧ w.ops = [.fillClose] ∧ w.cause =
      .refillEnd quiet) ∧
    (∃ (s : State) (station : BitVec 4) (w : Work) (rest : List Work) (quiet : Bool), s.enginesQuiet ∧ (s.store
      w.station).state ≠ .refill ∧ s.workOnWire station w rest .fillClose ∧ w.ops = [.fillClose] ∧ w.cause =
      .refillCancel quiet) ∧
    (∃ (s : State) (station : BitVec 4) (w : Work) (rest : List Work) (quiet : Bool), s.enginesQuiet ∧ (s.store
      w.station).state = .refill ∧ s.workOnWire station w rest .fillClose ∧ w.ops = [.fillClose] ∧ w.cause =
      .refillEnd quiet) ∧
    (∃ (s : State) (station : BitVec 4) (w : Work) (rest : List Work) (quiet : Bool), s.enginesQuiet ∧ (s.store
      w.station).state = .refill ∧ s.workOnWire station w rest .fillClose ∧ w.ops = [.fillClose] ∧ w.cause =
      .refillCancel quiet) ∧
    (∃ (s : State) (station : BitVec 4) (w : Work) (rest : List Work) (quiet : Bool), s.enginesQuiet ∧ (s.store
      w.station).state = .refill ∧ s.workOnWire station w rest .fillOpen ∧ w.cause = .refillBegin quiet ∧ w.ops =
      [.fillOpen] ∧ (s.store w.station).unverified = true) ∧
    (∃ (s : State) (station : BitVec 4) (w : Work) (rest : List Work) (tally : BitVec 16) (quiet : Bool),
      s.enginesQuiet ∧ (s.store w.station).state = .refill ∧ s.workOnWire station w rest .fillClose ∧ w.ops =
      [.fillClose] ∧ w.cause = .refillEnd quiet ∧ (s.store w.station).count + tally.toNat ≤ (s.store
      w.station).cfg.capacity) ∧
    (∃ (s : State) (station : BitVec 4) (w : Work) (rest : List Work) (tally : BitVec 16) (quiet : Bool),
      s.enginesQuiet ∧ (s.store w.station).state = .refill ∧ s.workOnWire station w rest .fillClose ∧ w.ops =
      [.fillClose] ∧ w.cause = .refillEnd quiet ∧ (s.store w.station).cfg.capacity < (s.store w.station).count +
      tally.toNat) :=
  ⟨⟨(shop.storeIn 0 .refill).work7 (newWork 0 (.refillBegin true) [.fillOpen]) .fillOpen, 1,
    newWork 0 (.refillBegin true) [.fillOpen], [], true, quiet_of (by decide), by decide, ⟨⟨by decide, 3, false,
    by decide⟩, by decide⟩, by decide, by decide⟩,
   ⟨(shop.storeIn 0 .offline).work7 (newWork 0 (.refillBegin true) [.fillOpen]) .fillOpen, 1,
     newWork 0 (.refillBegin true) [.fillOpen], [], true, quiet_of (by decide), by decide, ⟨⟨by decide, 3, false,
     by decide⟩, by decide⟩, by decide, by decide⟩,
   ⟨(shop.storeIn 0 .offline).work7 (newWork 0 (.refillEnd false) [.fillClose]) .fillClose, 1,
     newWork 0 (.refillEnd false) [.fillClose], [], false, quiet_of (by decide), by decide, ⟨⟨by decide, 3, false,
     by decide⟩, by decide⟩, by decide, by decide⟩,
   ⟨(shop.storeIn 0 .disabled).work7 (newWork 0 (.refillCancel false) [.fillClose]) .fillClose, 1,
     newWork 0 (.refillCancel false) [.fillClose], [], false, quiet_of (by decide), by decide, ⟨⟨by decide, 3,
     false, by decide⟩, by decide⟩, by decide, by decide⟩,
   ⟨(shop.storeIn 0 .refill).work7 (newWork 0 (.refillEnd false) [.fillClose]) .fillClose, 1,
     newWork 0 (.refillEnd false) [.fillClose], [], false, quiet_of (by decide), by decide, ⟨⟨by decide, 3, false,
     by decide⟩, by decide⟩, by decide, by decide⟩,
   ⟨(shop.storeIn 0 .refill).work7 (newWork 0 (.refillCancel false) [.fillClose]) .fillClose, 1,
     newWork 0 (.refillCancel false) [.fillClose], [], false, quiet_of (by decide), by decide, ⟨⟨by decide, 3,
     false, by decide⟩, by decide⟩, by decide, by decide⟩,
   ⟨((shop.storeIn 0 .refill).updStore 0 (fun r => { r with unverified := true })).work7 (newWork 0 (.refillBegin true) [.fillOpen]) .fillOpen,
     1, newWork 0 (.refillBegin true) [.fillOpen], [], true, quiet_of (by decide), by decide, ⟨⟨by decide, 3, false,
     by decide⟩, by decide⟩, by decide, by decide, by decide⟩,
   ⟨(shop.storeIn 0 .refill).work7 (newWork 0 (.refillEnd false) [.fillClose]) .fillClose, 1,
     newWork 0 (.refillEnd false) [.fillClose], [], 95, false, quiet_of (by decide), by decide, ⟨⟨by decide, 3,
     false, by decide⟩, by decide⟩, by decide, by decide, by decide⟩,
   ⟨(shop.storeIn 0 .refill).work7 (newWork 0 (.refillEnd false) [.fillClose]) .fillClose, 1,
     newWork 0 (.refillEnd false) [.fillClose], [], 96, false, quiet_of (by decide), by decide, ⟨⟨by decide, 3,
     false, by decide⟩, by decide⟩, by decide, by decide, by decide⟩⟩

theorem witness_TheBoxIsDrawnAndReplaced :
    (∃ (s : State), s.boxAgrees ∧ s.cashbox.presence = .inPlace) ∧
    (∃ (s : State), s.boxAgrees ∧ s.cashbox.presence = .out ∧ 0 < s.system.boxNearFull ∧ 0 < s.system.boxCapacity) ∧
    (∃ (s : State), s.boxAgrees) ∧
    (∃ (s : State), s.boxAgrees ∧ s.cashbox.presence = .inPlace ∧ s.cashbox.looseCount = 0 ∧ s.cashbox.looseValue = 0) ∧
    (∃ (s : State), s.boxAgrees ∧ s.cashbox.presence = .inPlace ∧ (0 < s.cashbox.looseCount ∨ 0 <
      s.cashbox.looseValue)) :=
  ⟨⟨shop, by unfold State.boxAgrees; decide, by decide⟩,
   ⟨shop.setCashbox ⟨7, 700, 0, 0, .out, .removed⟩, by unfold State.boxAgrees; decide, by decide, by decide,
     by decide⟩,
   ⟨shop, by unfold State.boxAgrees; decide⟩,
   ⟨shop, by unfold State.boxAgrees; decide, by decide, by decide, by decide⟩,
   ⟨shop.setCashbox ⟨7, 700, 1, 0, .inPlace, .ok⟩, by unfold State.boxAgrees; decide, by decide, by decide⟩⟩

theorem witness_FiguresOfAStore :
    (∃ (r : Store), r.usable = true) ∧
    (∃ (r : Store), r.usable = false) ∧
    (∃ (b : Bank), b.capture = none) ∧
    (∃ (b : Bank), ∃ held, b.capture = some held) :=
  ⟨⟨shop.store 0, by decide⟩,
   ⟨(shop.storeIn 0 .jammed).store 0, by decide⟩,
   ⟨Bank.empty, by decide⟩,
   ⟨⟨false, some (plainFault .countLow none .reconciler none)⟩, plainFault .countLow none .reconciler none,
     by decide⟩⟩

theorem witness_DisableAndEnable :
    (∃ (s : State) (f : ByteFields), stationOf f.value = none ∧ s.ready .m .disable) ∧
    (∃ (s : State) (f : ByteFields), stationOf f.value = none ∧ s.ready .m .enable) ∧
    (∃ (s : State) (f : ByteFields) (i : Station), stationOf f.value = some i ∧ s.ready .m .disable ∧ (s.store
      i).state = .disabled) ∧
    (∃ (s : State) (f : ByteFields) (i : Station), stationOf f.value = some i ∧ s.ready .m .disable ∧ (s.store
      i).state ≠ .disabled ∧ (0 < (s.store i).reserved ∨ (s.store i).holder ≠ none ∨ (s.store i).state = .refill)) ∧
    (∃ (s : State) (f : ByteFields) (i : Station), stationOf f.value = some i ∧ s.ready .m .disable ∧ (s.store
      i).state ≠ .disabled ∧ (s.store i).reserved = 0 ∧ (s.store i).holder = none ∧ (s.store i).state ≠ .refill) ∧
    (∃ (s : State) (f : ByteFields) (i : Station), stationOf f.value = some i ∧ s.ready .m .enable ∧ ((s.store
      i).cfg.present = false ∨ (s.store i).state = .jammed ∨ (s.store i).state = .offline ∨ (s.store i).state =
      .refill ∨ s.setupFault = true)) ∧
    (∃ (s : State) (f : ByteFields) (i : Station), stationOf f.value = some i ∧ s.ready .m .enable ∧ (s.store
      i).cfg.present = true ∧ s.setupFault = false ∧ (s.store i).working = true) ∧
    (∃ (s : State) (f : ByteFields) (i : Station), stationOf f.value = some i ∧ s.ready .m .enable ∧ (s.store
      i).cfg.present = true ∧ s.setupFault = false ∧ (s.store i).state = .disabled) ∧
    (∃ (s : State) (f : ByteFields) (i : Station), stationOf f.value = some i ∧ s.ready .m .disable ∧ (s.store
      i).state ≠ .disabled ∧ (s.store i).reserved = 0 ∧ (s.store i).holder = none ∧ (s.store i).state ≠ .refill ∧
      s.enginesRest) ∧
    (∃ (s : State) (f : ByteFields) (i : Station), stationOf f.value = some i ∧ s.ready .m .enable ∧ (s.store
      i).cfg.present = true ∧ s.setupFault = false ∧ (s.store i).state = .disabled ∧ s.enginesRest) :=
  ⟨⟨shop, ⟨13⟩, by decide, by unfold State.ready; decide⟩,
   ⟨shop, ⟨13⟩, by decide, by unfold State.ready; decide⟩,
   ⟨shop, ⟨12⟩, 11, by decide, by unfold State.ready; decide, by decide⟩,
   ⟨reserved, ⟨1⟩, 0, by decide, by unfold State.ready; decide, by decide, by decide⟩,
   ⟨shop, ⟨1⟩, 0, by decide, by unfold State.ready; decide, by decide, by decide, by decide, by decide⟩,
   ⟨shop, ⟨12⟩, 11, by decide, by unfold State.ready; decide, by decide⟩,
   ⟨shop, ⟨1⟩, 0, by decide, by unfold State.ready; decide, by decide, by decide, by decide⟩,
   ⟨shop.storeIn 0 .disabled, ⟨1⟩, 0, by decide, by unfold State.ready; decide, by decide, by decide, by decide⟩,
   ⟨shop, ⟨1⟩, 0, by decide, by unfold State.ready; decide, by decide, by decide, by decide, by decide,
     engines_of (by decide)⟩,
   ⟨shop.storeIn 0 .disabled, ⟨1⟩, 0, by decide, by unfold State.ready; decide, by decide, by decide, by decide,
     engines_of (by decide)⟩⟩

theorem witness_StatusRepliesAndClearFault :
    (∃ (s : State) (station : BitVec 4) (w : Work) (rest : List Work), s.workOnWire station w rest .status ∧ w.cause ≠
      .startEject ∧ (∀ q, w.cause ≠ .clearFault q)) ∧
    (∃ (s : State) (station : BitVec 4) (w : Work) (rest : List Work), s.workOnWire station w rest .status ∧ w.cause =
      .clearFault false ∧ ((s.store w.station).state = .jammed ∨ (s.store w.station).state = .offline)) ∧
    (∃ (s : State) (f : BankFields), s.ready .m .clearFault ∧ f.kind = 1#8 ∧ stationOf f.number = none) ∧
    (∃ (s : State) (f : BankFields) (i : Station), s.ready .m .clearFault ∧ f.kind = 1#8 ∧ stationOf f.number = some i
      ∧ ((s.store i).state = .jammed ∨ (s.store i).state = .offline)) ∧
    (∃ (s : State) (f : BankFields) (i : Station), s.ready .m .clearFault ∧ f.kind = 1#8 ∧ stationOf f.number = some i
      ∧ (s.store i).state ≠ .jammed ∧ (s.store i).state ≠ .offline) ∧
    (∃ (s : State) (f : BankFields) (p : PointId), s.ready .m .clearFault ∧ f.kind = 2#8 ∧ Sys2Proof.Machine.pointOf
      f.number = some p) ∧
    (∃ (s : State) (station : BitVec 4) (w : Work) (rest : List Work) (held : Bool), s.workOnWire station w rest
      .status ∧ w.cause ≠ .startEject ∧ (∀ q, w.cause ≠ .clearFault q) ∧ (held = false ∨ 0 < (s.store
      w.station).count)) ∧
    (∃ (s : State) (station : BitVec 4) (w : Work) (rest : List Work) (gate : Gate), s.workOnWire station w rest
      .status ∧ w.cause ≠ .startEject ∧ (∀ q, w.cause ≠ .clearFault q) ∧ gate = .unset) ∧
    (∃ (s : State) (station : BitVec 4) (w : Work) (rest : List Work) (held : Bool), s.workOnWire station w rest
      .status ∧ w.cause ≠ .startEject ∧ (∀ q, w.cause ≠ .clearFault q) ∧ held = true ∧ (s.store w.station).count = 0) :=
  ⟨⟨shop.work7 (newWork 0 .service [.status]) .status, 1, newWork 0 .service [.status], [], ⟨⟨by decide, 3, false,
    by decide⟩, by decide⟩, by decide, by decide⟩,
   ⟨(shop.storeIn 0 .jammed).work7 (newWork 0 (.clearFault false) [.status]) .status, 1,
     newWork 0 (.clearFault false) [.status], [], ⟨⟨by decide, 3, false, by decide⟩, by decide⟩, by decide,
     by decide⟩,
   ⟨shop, ⟨1, 0⟩, by unfold State.ready; decide, by decide, by decide⟩,
   ⟨shop.storeIn 0 .offline, ⟨1, 1⟩, 0, by unfold State.ready; decide, by decide, by decide, by decide⟩,
   ⟨shop, ⟨1, 12⟩, 11, by unfold State.ready; decide, by decide, by decide, by decide, by decide⟩,
   ⟨shop, ⟨2, 2⟩, .p2, by unfold State.ready; decide, by decide, by decide⟩,
   ⟨shop.work7 (newWork 0 .service [.status]) .status, 1, newWork 0 .service [.status], [], true, ⟨⟨by decide, 3,
     false, by decide⟩, by decide⟩, by decide, by decide, by decide⟩,
   ⟨shop.work7 (newWork 0 .service [.status]) .status, 1, newWork 0 .service [.status], [], .unset, ⟨⟨by decide, 3,
     false, by decide⟩, by decide⟩, by decide, by decide, by decide⟩,
   ⟨(ready.stock 0 100 0).work7 (newWork 0 .service [.status]) .status, 1, newWork 0 .service [.status], [], true,
     ⟨⟨by decide, 3, false, by decide⟩, by decide⟩, by decide, by decide, by decide, by decide⟩⟩

theorem witness_TalliesAndBandsCorrectCounts :
    (∃ (s : State) (station : BitVec 4) (w : Work) (rest : List Work) (value : Byte), s.workOnWire station w rest
      .tally ∧ w.cause ≠ .startEject ∧ (s.store w.station).ejectRecord = none ∧ (w.sawUnset = true ∨ 128 ≤ (value -
      (s.store w.station).moduleTally).toNat)) ∧
    (∃ (s : State) (station : BitVec 4) (w : Work) (rest : List Work) (value : Byte), s.workOnWire station w rest
      .tally ∧ w.cause ≠ .startEject ∧ (s.store w.station).ejectRecord = none ∧ w.sawUnset = false ∧ 0 < (value -
      (s.store w.station).moduleTally).toNat ∧ (value - (s.store w.station).moduleTally).toNat < 128) ∧
    (∃ (s : State) (station : BitVec 4) (w : Work) (rest : List Work) (value : Byte), s.workOnWire station w rest
      .tally ∧ w.cause ≠ .startEject ∧ ((s.store w.station).ejectRecord ≠ none ∨ (w.sawUnset = false ∧ value =
      (s.store w.station).moduleTally))) ∧
    (∃ (s : State) (station : BitVec 4) (w : Work) (rest : List Work) (b : Band), s.workOnWire station w rest .band ∧
      (s.store w.station).state ≠ .refill ∧ (s.store w.station).ejectRecord = none ∧ (∀ at_, (s.store
      w.station).lastRouted = some at_ → 50 ≤ age s.time at_) ∧ bandUpper (s.store w.station).cfg b < (s.store
      w.station).count) ∧
    (∃ (s : State) (station : BitVec 4) (w : Work) (rest : List Work) (b : Band), s.workOnWire station w rest .band ∧
      (s.store w.station).state ≠ .refill ∧ (s.store w.station).ejectRecord = none ∧ (∀ at_, (s.store
      w.station).lastRouted = some at_ → 50 ≤ age s.time at_) ∧ (s.store w.station).count < bandLower (s.store
      w.station).cfg b) ∧
    (∃ (s : State) (station : BitVec 4) (w : Work) (rest : List Work) (b : Band), s.workOnWire station w rest .band ∧
      (s.store w.station).state ≠ .refill ∧ (s.store w.station).ejectRecord = none ∧ (∀ at_, (s.store
      w.station).lastRouted = some at_ → 50 ≤ age s.time at_) ∧ bandLower (s.store w.station).cfg b ≤ (s.store
      w.station).count ∧ (s.store w.station).count ≤ bandUpper (s.store w.station).cfg b) ∧
    (∃ (s : State) (station : BitVec 4) (w : Work) (rest : List Work), ∃ e, s.workOnWire station w rest .band ∧
      (s.store w.station).state ≠ .refill ∧ (s.store w.station).ejectRecord = none ∧ (∀ at_, (s.store
      w.station).lastRouted = some at_ → 50 ≤ age s.time at_) ∧ w.afterNone = true ∧ (s.engine e).bandAwaited = some
      w.station ∧ s.arbitersSound ∧ listHas (s.payList e) w.station = false) ∧
    (∃ (s : State) (station : BitVec 4) (w : Work) (rest : List Work), s.workOnWire station w rest .band ∧ (s.store
      w.station).state = .refill) ∧
    (∃ (s : State) (station : BitVec 4) (w : Work) (rest : List Work), s.workOnWire station w rest .band ∧ (s.store
      w.station).state ≠ .refill ∧ (w.cause = .read ∨ w.cause = .service ∨ w.cause = .startBand) ∧ s.enginesQuiet ∧ (∀
      x ∈ s.reconciler.work ++ s.reconciler.deferred, x.station = w.station → s.stays x) ∧ ((s.store
      w.station).ejectRecord ≠ none ∨ (s.store w.station).lastRouted.any (fun at_ => decide (age s.time at_ < 50)) =
      true)) ∧
    (∃ (s : State) (station : BitVec 4) (w : Work) (rest : List Work) (b : Band), ∃ i, s.workOnWire station w rest
      .band ∧ (s.store w.station).state ≠ .refill ∧ (s.store w.station).ejectRecord = none ∧ (∀ at_, (s.store
      w.station).lastRouted = some at_ → 50 ≤ age s.time at_) ∧ bandLower (s.store w.station).cfg b ≤ (s.store
      w.station).count ∧ (s.store w.station).count ≤ bandUpper (s.store w.station).cfg b ∧ i ≠ w.station) :=
  ⟨⟨shop.work7 (newWork 0 .service [.tally]) .tally, 1, newWork 0 .service [.tally], [], 128, ⟨⟨by decide, 3, false,
    by decide⟩, by decide⟩, by decide, by decide, by decide⟩,
   ⟨shop.work7 (newWork 0 .service [.tally]) .tally, 1, newWork 0 .service [.tally], [], 127, ⟨⟨by decide, 3, false,
     by decide⟩, by decide⟩, by decide, by decide, by decide, by decide, by decide⟩,
   ⟨shop.work7 (newWork 0 .service [.tally]) .tally, 1, newWork 0 .service [.tally], [], 0, ⟨⟨by decide, 3, false,
     by decide⟩, by decide⟩, by decide, by decide⟩,
   ⟨shop.work7 (verifyRead 0) .band, 1, verifyRead 0, [], .empty, ⟨⟨by decide, 3, false, by decide⟩, by decide⟩,
     by decide, by decide, some_of_none (by decide), by decide⟩,
   ⟨shop.work7 (verifyRead 0) .band, 1, verifyRead 0, [], .full, ⟨⟨by decide, 3, false, by decide⟩, by decide⟩,
     by decide, by decide, some_of_none (by decide), by decide⟩,
   ⟨shop.work7 (verifyRead 0) .band, 1, verifyRead 0, [], .low, ⟨⟨by decide, 3, false, by decide⟩, by decide⟩,
     by decide, by decide, some_of_none (by decide), by decide, by decide⟩,
   ⟨afterNone (awaiting .running .cont) [], 1, noneRead, [], .p1, ⟨⟨by decide, 3, false, by decide⟩, by decide⟩,
     by decide, by decide, some_of_none (by decide), by decide, by decide,
     arbiters_of (by decide) (by decide) (by decide) (by decide), by decide⟩,
   ⟨(shop.storeIn 0 .refill).work7 (newWork 0 .service [.band, .clearAttn]) .band, 1, newWork 0 .service [.band,
     .clearAttn], [], ⟨⟨by decide, 3, false, by decide⟩, by decide⟩, by decide⟩,
   ⟨(shop.updStore 0 (fun r => { r with lastRouted := some 0 })).setTime 49 |>.work7 (verifyRead 0) .band, 1,
     verifyRead 0, [], ⟨⟨by decide, 3, false, by decide⟩, by decide⟩, by decide, by decide, quiet_of (by decide),
     by unfold State.stays; decide, by decide⟩,
   ⟨shop.work7 (verifyRead 0) .band, 1, verifyRead 0, [], .low, 1, ⟨⟨by decide, 3, false, by decide⟩, by decide⟩,
     by decide, by decide, some_of_none (by decide), by decide, by decide, by decide⟩⟩

theorem witness_DeferredReadsAndReconciliation :
    (∃ (s : State) (i : Station), s.reconciler.deferred.any (fun x => x.station == i) = true ∧ (s.store i).ejectRecord
      = none ∧ s.enginesQuiet ∧ (∀ x ∈ s.reconciler.work ++ s.reconciler.deferred, x.station = i → s.stays x)) ∧
    (∃ (s : State) (station : BitVec 4) (w : Work) (rest : List Work) (op : RecOp) (ops : List RecOp), w.cause =
      .startEject ∧ s.enginesQuiet ∧ (∀ x ∈ w :: rest, s.stays x) ∧ s.workOnWire station w rest .result ∧ w.ops =
      .result :: op :: ops) ∧
    (∃ (s : State) (station : BitVec 4) (w : Work) (rest : List Work) (op : RecOp) (ops : List RecOp) (first : Time),
      w.cause = .startEject ∧ s.enginesQuiet ∧ (∀ x ∈ w :: rest, s.stays x) ∧ s.workOnWire station w rest .result ∧
      w.ops = .result :: op :: ops ∧ w.since = some first) ∧
    (∃ (s : State) (station : BitVec 4) (w : Work) (rest : List Work) (held : Bool) (gate : Gate) (op : RecOp) (ops :
      List RecOp), w.cause = .startEject ∧ s.enginesQuiet ∧ (∀ x ∈ w :: rest, s.stays x) ∧ s.workOnWire station w rest
      .status ∧ w.ops = .status :: op :: ops ∧ gate ≠ .unset ∧ (held = false ∨ 0 < (s.store w.station).count)) ∧
    (∃ (s : State) (station : BitVec 4) (w : Work) (rest : List Work) (value : Byte), w.cause = .startEject ∧
      s.workOnWire station w rest .tally ∧ (w.sawUnset = true ∨ 128 ≤ (value - (s.store
      w.station).moduleTally).toNat)) ∧
    (∃ (s : State) (station : BitVec 4) (w : Work) (rest : List Work) (value : Byte) (n : Nat), w.cause = .startEject
      ∧ s.workOnWire station w rest .tally ∧ w.sawUnset = false ∧ n = (value - (s.store w.station).moduleTally).toNat
      ∧ n < 128) ∧
    (∃ (s : State) (i : Station), s.reconciler.deferred.any (fun x => x.station == i) = true ∧ (s.store i).ejectRecord
      = none ∧ s.enginesQuiet ∧ (∀ x ∈ s.reconciler.work ++ s.reconciler.deferred, x.station = i → s.stays x) ∧
      (s.reconciler.deferred.any (fun x => x.readsBand i)) = true) ∧
    (∃ (s : State) (i : Station), ∃ at_, s.reconciler.deferred.any (fun x => x.station == i) = true ∧ (s.store
      i).ejectRecord = none ∧ s.enginesQuiet ∧ (∀ x ∈ s.reconciler.work ++ s.reconciler.deferred, x.station = i →
      s.stays x) ∧ (s.store i).lastRouted = some at_) ∧
    (∃ (s : State) (station : BitVec 4) (w : Work) (rest : List Work) (value : Byte) (n : Nat), w.cause = .startEject
      ∧ s.workOnWire station w rest .tally ∧ w.sawUnset = false ∧ n = (value - (s.store w.station).moduleTally).toNat
      ∧ n < 128 ∧ (s.store w.station).ejectRecord = some ⟨.m, .cashbox⟩ ∧ s.boxAgrees ∧ s.cashbox.state ≠ .removed ∧
      s.cashbox.count + n ≤ 65535 ∧ s.cashbox.value + n * (s.store w.station).cfg.denomination ≤ 9999999) ∧
    (∃ (s : State) (station : BitVec 4) (w : Work) (rest : List Work) (value : Byte) (p : PointId) (j : Slot) (r :
      Rec) (n : Nat), w.cause = .startEject ∧ s.workOnWire station w rest .tally ∧ w.sawUnset = false ∧ n = (value -
      (s.store w.station).moduleTally).toNat ∧ n < 128 ∧ (s.store w.station).ejectRecord = some ⟨pointEngine p,
      engineDest (pointEngine p)⟩ ∧ s.slot j = some r ∧ (s.point p).binding = .record r.tag ∧ r.state = .interrupted ∧
      s.tagsDistinct ∧ s.enginesRest ∧ n = 0) ∧
    (∃ (s : State) (station : BitVec 4) (w : Work) (rest : List Work) (value : Byte) (p : PointId) (j : Slot) (r :
      Rec) (n : Nat), w.cause = .startEject ∧ s.workOnWire station w rest .tally ∧ w.sawUnset = false ∧ n = (value -
      (s.store w.station).moduleTally).toNat ∧ n < 128 ∧ (s.store w.station).ejectRecord = some ⟨pointEngine p,
      engineDest (pointEngine p)⟩ ∧ s.slot j = some r ∧ (s.point p).binding = .record r.tag ∧ r.state = .interrupted ∧
      s.tagsDistinct ∧ s.enginesRest ∧ 0 < n) :=
  ⟨⟨shop.setReconciler ⟨[], [verifyRead 0]⟩, 0, by decide, by decide, quiet_of (by decide),
    by unfold State.stays; decide⟩,
   ⟨shop.work7 (newWork 0 .startEject [.result, .status, .tally]) .result, 1, newWork 0 .startEject [.result,
     .status, .tally], [], .status, [.tally], by decide, quiet_of (by decide), by unfold State.stays; decide,
     ⟨⟨by decide, 3, false, by decide⟩, by decide⟩, by decide⟩,
   ⟨shop.work7 { newWork 0 .startEject [.result, .status, .tally] with since := some 5 } .result, 1,
     { newWork 0 .startEject [.result, .status, .tally] with since := some 5 }, [], .status, [.tally], 5, by decide,
     quiet_of (by decide), by unfold State.stays; decide, ⟨⟨by decide, 3, false, by decide⟩, by decide⟩, by decide,
     by decide⟩,
   ⟨shop.work7 (newWork 0 .startEject [.status, .tally]) .status, 1, newWork 0 .startEject [.status, .tally], [],
     true, .cupP1, .tally, [], by decide, quiet_of (by decide), by unfold State.stays; decide, ⟨⟨by decide, 3,
     false, by decide⟩, by decide⟩, by decide, by decide, by decide⟩,
   ⟨shop.work7 (newWork 0 .startEject [.tally]) .tally, 1, newWork 0 .startEject [.tally], [], 128, by decide,
     ⟨⟨by decide, 3, false, by decide⟩, by decide⟩, by decide⟩,
   ⟨shop.work7 (newWork 0 .startEject [.tally]) .tally, 1, newWork 0 .startEject [.tally], [], 0, 0, by decide,
     ⟨⟨by decide, 3, false, by decide⟩, by decide⟩, by decide, by decide, by decide⟩,
   ⟨shop.setReconciler ⟨[], [verifyRead 0]⟩, 0, by decide, by decide, quiet_of (by decide),
     by unfold State.stays; decide, by decide⟩,
   ⟨(shop.updStore 0 (fun r => { r with lastRouted := some 0 })).setReconciler ⟨[], [verifyRead 0]⟩, 0, 0,
     by decide, by decide, quiet_of (by decide), by unfold State.stays; decide, by decide⟩,
   ⟨(shop.updStore 0 (fun r => { r with ejectRecord := some ⟨.m,
     .cashbox⟩ })).work7 (newWork 0 .startEject [.tally]) .tally, 1, newWork 0 .startEject [.tally], [], 127, 127,
     by decide, ⟨⟨by decide, 3, false, by decide⟩, by decide⟩, by decide, by decide, by decide, by decide,
     by unfold State.boxAgrees; decide, by decide, by decide, by decide⟩,
   ⟨((shop.at7 cutShort).updStore 0 (fun r => { r with ejectRecord := some ⟨.p1,
     .cupP1⟩ })).work7 (newWork 0 .startEject [.tally]) .tally, 1, newWork 0 .startEject [.tally], [], 0, .p1, 0,
     cutShort, 0, by decide, ⟨⟨by decide, 3, false, by decide⟩, by decide⟩, by decide, by decide, by decide,
     by decide, by decide, by decide, by decide, tags_of (by decide), engines_of (by decide), by decide⟩,
   ⟨((shop.at7 cutShort).updStore 0 (fun r => { r with ejectRecord := some ⟨.p1,
     .cupP1⟩ })).work7 (newWork 0 .startEject [.tally]) .tally, 1, newWork 0 .startEject [.tally], [], 1, .p1, 0,
     cutShort, 1, by decide, ⟨⟨by decide, 3, false, by decide⟩, by decide⟩, by decide, by decide, by decide,
     by decide, by decide, by decide, by decide, tags_of (by decide), engines_of (by decide), by decide⟩⟩

theorem witness_SetUpCommandsStoreTheirFields :
    (∃ (s : State) (f : SetStoreFields) (i : Station), s.ready .m .setStore ∧ (∀ b, f.present = some b → (boolOf
      b).isSome = true) ∧ (∀ b, f.kind = some b → (storeKindOf b).isSome = true) ∧ (∀ b, f.edge = some b → (edgeOf
      b).isSome = true) ∧ (∀ b, f.staging = some b → (boolOf b).isSome = true) ∧ (stationOf f.station = none ∨
      (stationOf f.station = some i ∧ s.setStoreFits i f = false))) ∧
    (∃ (s : State) (f : SetStoreFields) (i : Station), s.ready .m .setStore ∧ (∀ b, f.present = some b → (boolOf
      b).isSome = true) ∧ (∀ b, f.kind = some b → (storeKindOf b).isSome = true) ∧ (∀ b, f.edge = some b → (edgeOf
      b).isSome = true) ∧ (∀ b, f.staging = some b → (boolOf b).isSome = true) ∧ stationOf f.station = some i ∧
      s.setStoreFits i f = true ∧ ((s.store i).cfg.restricted ((s.store i).cfg.changed f) f = true ∧ (s.store i).state
      ≠ .disabled)) ∧
    (∃ (s : State) (f : SetStoreFields) (i : Station), s.ready .m .setStore ∧ (∀ b, f.present = some b → (boolOf
      b).isSome = true) ∧ (∀ b, f.kind = some b → (storeKindOf b).isSome = true) ∧ (∀ b, f.edge = some b → (edgeOf
      b).isSome = true) ∧ (∀ b, f.staging = some b → (boolOf b).isSome = true) ∧ stationOf f.station = some i ∧
      s.setStoreFits i f = true ∧ ((s.store i).cfg.restricted ((s.store i).cfg.changed f) f = false ∨ (s.store
      i).state = .disabled)) ∧
    (∃ (s : State) (g : SetPointFields) (p : PointId), s.ready .m .setPoint ∧ Sys2Proof.Machine.pointOf g.point = some
      p ∧ (∀ b, g.mode = some b → (payModeOf b).isSome = true) ∧ (∀ b, g.short = some b → (boolOf b).isSome = true)) ∧
    (∃ (s : State) (h : SetSystemFields), s.ready .m .setSystem ∧ (∀ m, h.attention = some m → m.toNat < 4096) ∧ (∃ u,
      h.unit = some u ∧ u ≠ 1#8 ∧ u ≠ 2#8 ∧ u ≠ 5#8 ∧ u ≠ 10#8)) ∧
    (∃ (s : State) (h : SetSystemFields), s.ready .m .setSystem ∧ (∀ m, h.attention = some m → m.toNat < 4096) ∧
      setSystemFits h = true ∧ s.unitHeld h = true) ∧
    (∃ (s : State) (h : SetSystemFields), s.ready .m .setSystem ∧ (∀ m, h.attention = some m → m.toNat < 4096) ∧
      setSystemFits h = true ∧ s.unitHeld h = false) ∧
    (∃ (s : State) (f : SetStoreFields) (i : Station), s.ready .m .setStore ∧ (∀ b, f.present = some b → (boolOf
      b).isSome = true) ∧ (∀ b, f.kind = some b → (storeKindOf b).isSome = true) ∧ (∀ b, f.edge = some b → (edgeOf
      b).isSome = true) ∧ (∀ b, f.staging = some b → (boolOf b).isSome = true) ∧ stationOf f.station = some i ∧
      s.setStoreFits i f = true ∧ ((s.store i).cfg.restricted ((s.store i).cfg.changed f) f = false ∨ (s.store
      i).state = .disabled) ∧ f.baseline = true) ∧
    (∃ (s : State) (f : SetStoreFields) (i : Station), s.ready .m .setStore ∧ (∀ b, f.present = some b → (boolOf
      b).isSome = true) ∧ (∀ b, f.kind = some b → (storeKindOf b).isSome = true) ∧ (∀ b, f.edge = some b → (edgeOf
      b).isSome = true) ∧ (∀ b, f.staging = some b → (boolOf b).isSome = true) ∧ stationOf f.station = some i ∧
      s.setStoreFits i f = true ∧ ((s.store i).cfg.restricted ((s.store i).cfg.changed f) f = false ∨ (s.store
      i).state = .disabled) ∧ f.baseline = false) ∧
    (∃ (s : State) (f : SetStoreFields) (i : Station), s.ready .m .setStore ∧ (∀ b, f.present = some b → (boolOf
      b).isSome = true) ∧ (∀ b, f.kind = some b → (storeKindOf b).isSome = true) ∧ (∀ b, f.edge = some b → (edgeOf
      b).isSome = true) ∧ (∀ b, f.staging = some b → (boolOf b).isSome = true) ∧ stationOf f.station = some i ∧
      s.setStoreFits i f = true ∧ ((s.store i).cfg.restricted ((s.store i).cfg.changed f) f = false ∨ (s.store
      i).state = .disabled) ∧ s.enginesQuiet) :=
  ⟨⟨shop, ⟨1, none, none, some 60000, none, none, none, none, none, none, none, none, false⟩, 0,
    by unfold State.ready; decide, some_of (by decide), some_of (by decide), some_of (by decide),
    some_of (by decide), .inr (by decide +kernel)⟩,
   ⟨shop, ⟨1, none, none, none, some 50, none, none, none, none, none, none, none, true⟩, 0,
     by unfold State.ready; decide, some_of (by decide), some_of (by decide), some_of (by decide),
     some_of (by decide), by decide, by decide +kernel, by decide⟩,
   ⟨shop.storeIn 0 .disabled, ⟨1, none, none, none, some 50, none, none, none, none, none, none, none, true⟩, 0,
     by unfold State.ready; decide, some_of (by decide), some_of (by decide), some_of (by decide),
     some_of (by decide), by decide, by decide +kernel, by decide⟩,
   ⟨shop, ⟨2, some 4, some 1, some 9, some 0, none⟩, .p2, by unfold State.ready; decide, by decide,
     some_of (by decide), some_of (by decide)⟩,
   ⟨shop, ⟨some 3, none, none, none, some 0x0FFF⟩, by unfold State.ready; decide, fun m h => by cases h; decide, ⟨3,
     by decide⟩⟩,
   ⟨shop.at7 tendered, ⟨some 10, none, none, none, none⟩, by unfold State.ready; decide, (fun m h => nomatch h),
     by decide, by decide⟩,
   ⟨shop, ⟨some 10, some 10, none, some 5000, some 0x0FFF⟩, by unfold State.ready; decide,
     fun m h => by cases h; decide, by decide, by decide⟩,
   ⟨shop.storeIn 0 .disabled, ⟨1, none, none, none, some 50, none, none, none, none, none, none, none, true⟩, 0,
     by unfold State.ready; decide, some_of (by decide), some_of (by decide), some_of (by decide),
     some_of (by decide), by decide, by decide +kernel, by decide, by decide⟩,
   ⟨shop.storeIn 0 .disabled, ⟨1, none, none, some 50, none, none, none, none, none, none, none, none, false⟩, 0,
     by unfold State.ready; decide, some_of (by decide), some_of (by decide), some_of (by decide),
     some_of (by decide), by decide, by decide +kernel, by decide, by decide⟩,
   ⟨shop.storeIn 0 .disabled, ⟨1, none, none, some 50, none, none, none, none, none, none, none, none, false⟩, 0,
     by unfold State.ready; decide, some_of (by decide), some_of (by decide), some_of (by decide),
     some_of (by decide), by decide, by decide +kernel, by decide, quiet_of (by decide)⟩⟩

theorem witness_QueriesReportAndChangeNothing :
    (∃ (s : State) (port : PortId) (f : QueryRecordFields) (i : Slot) (r : Rec), s.ready port .queryRecord ∧ s.holds
      f.tag i r ∧ (((f.part = 1#8 ∨ f.part = 3#8) ∧ f.first = 0#8) ∨ (f.part = 2#8 ∧ f.first.toNat ≤ 11))) ∧
    (∃ (s : State) (port : PortId) (b : ByteFields), s.ready port .listRecords ∧ slotOf b.value = none) ∧
    (∃ (s : State) (port : PortId) (b : ByteFields), s.ready port .queryStore ∧ stationOf b.value = none) ∧
    (∃ (s : State) (port : PortId) (k : BankFields), s.ready port .readFault ∧ k.kind = 1#8 ∧ stationOf k.number =
      none) ∧
    (∃ (s : State) (port : PortId) (b : ByteFields) (from_ : Slot), s.ready port .listRecords ∧ slotOf b.value = some
      from_) ∧
    (∃ (s : State) (port : PortId) (g : QueryPointFields) (p : PointId), s.ready port .queryPoint ∧
      Sys2Proof.Machine.pointOf g.point = some p ∧ (g.part = 1#8 ∨ g.part = 2#8 ∨ g.part = 3#8 ∨ g.part = 4#8) ∧
      ((s.point p).recognised.getD []).length ≤ 16) ∧
    (∃ (s : State) (port : PortId) (b : ByteFields) (st : Station), s.ready port .queryStore ∧ stationOf b.value =
      some st) ∧
    (∃ (s : State) (port : PortId), s.ready port .queryCashbox) ∧
    (∃ (s : State) (port : PortId) (st : Station) (k : BankFields), s.ready port .readFault ∧ k.kind = 1#8 ∧ stationOf
      k.number = some st) ∧
    (∃ (s : State) (port : PortId) (p : PointId) (k : BankFields), s.ready port .readFault ∧ k.kind = 2#8 ∧
      Sys2Proof.Machine.pointOf k.number = some p) ∧
    (∃ (s : State) (port : PortId), s.ready port .readEvents) :=
  ⟨⟨reserved.at7 settled, .a, ⟨7, 2, 11⟩, 0, settled, by unfold State.ready; decide, holds_of (by decide),
    by decide⟩,
   ⟨shop, .b, ⟨25⟩, by unfold State.ready; decide, by decide⟩,
   ⟨shop, .a, ⟨13⟩, by unfold State.ready; decide, by decide⟩,
   ⟨shop, .m, ⟨1, 0⟩, by unfold State.ready; decide, by decide, by decide⟩,
   ⟨shop.full .paid, .b, ⟨24⟩, 23, by unfold State.ready; decide, by decide⟩,
   ⟨shop.lineUp .p1, .a, ⟨1, 4, 0⟩, .p1, by unfold State.ready; decide, by decide, by decide, by decide⟩,
   ⟨shop, .a, ⟨12⟩, 11, by unfold State.ready; decide, by decide⟩,
   ⟨shop, .b, by unfold State.ready; decide⟩,
   ⟨shop, .a, 11, ⟨1, 12⟩, by unfold State.ready; decide, by decide, by decide⟩,
   ⟨shop, .a, .p2, ⟨2, 2⟩, by unfold State.ready; decide, by decide, by decide⟩,
   ⟨shop, .b, by unfold State.ready; decide⟩⟩

theorem witness_EventAndSystemCommands :
    (∃ (s : State) (port : PortId) (f : KindsFields), s.ready port .clearEvents ∧ f.kinds.getLsbD 15 = true) ∧
    (∃ (s : State) (port : PortId) (f : KindsFields), s.ready port .clearEvents ∧ f.kinds.getLsbD 15 = false) ∧
    (∃ (s : State) (port : PortId) (f : KindsFields), s.ready port .setMask ∧ f.kinds.getLsbD 15 = true) ∧
    (∃ (s : State) (port : PortId) (f : KindsFields), s.ready port .setMask ∧ f.kinds.getLsbD 15 = false) ∧
    (∃ (s : State), s.ready .m .saveSetup) ∧
    (∃ (s : State), s.ready .m .readCause) ∧
    (∃ (s : State), s.ready .m .resetCommand) :=
  ⟨⟨State.reset, .a, ⟨0x8000⟩, by unfold State.ready; decide, by decide⟩,
   ⟨State.reset, .b, ⟨0x7FFF⟩, by unfold State.ready; decide, by decide⟩,
   ⟨State.reset, .a, ⟨0x8000⟩, by unfold State.ready; decide, by decide⟩,
   ⟨State.reset, .b, ⟨0x7FFF⟩, by unfold State.ready; decide, by decide⟩,
   ⟨shop, by unfold State.ready; decide⟩,
   ⟨State.reset, by unfold State.ready; decide⟩,
   ⟨shop, by unfold State.ready; decide⟩⟩

theorem witness_FramesAreCheckedInOrder :
    (∃ (c : Instr) (p : PortId) (k : Cmd) (s : State), c.command = some (p, k) ∧ ((s.port p).replyOwed ≠ none ∨
      (s.port p).reply ≠ none)) ∧
    (∃ (c : Instr) (p : PortId) (k : Cmd) (s : State), c.command = some (p, k) ∧ (s.port p).replyOwed = none ∧ (s.port
      p).reply = none ∧ s.startUp.ended = false ∧ k.duringStartUp = false) ∧
    (∃ (c : Instr) (p : PortId) (k : Cmd) (s : State), c.command = some (p, k) ∧ (s.port p).replyOwed = none ∧ (s.port
      p).reply = none ∧ (s.startUp.ended = true ∨ k.duringStartUp = true) ∧ s.setupFault = true ∧ (p ≠ .m ∨
      k.duringSetupFault = false)) ∧
    (∃ (c : Instr) (p : PortId) (k : Cmd) (s : State), c.command = some (p, k) ∧ (s.port p).replyOwed = none ∧ (s.port
      p).reply = none ∧ (s.startUp.ended = true ∨ k.duringStartUp = true) ∧ s.setupFault = false ∧ p ≠ .m ∧
      k.openToWindows = false) ∧
    (∃ (c : Instr) (p : PortId) (k : Cmd) (s : State), c.command = some (p, k) ∧ s.ready p k ∧ c.misfits = true) :=
  ⟨⟨.enable .m (.fits ⟨1⟩), .m, .enable, shop.owe .m .enable, by decide, by decide⟩,
   ⟨.enable .m (.fits ⟨1⟩), .m, .enable, State.reset, by decide, by decide, by decide, by decide, by decide⟩,
   ⟨.readEvents .a .misfit, .a, .readEvents, faulty, by decide, by decide, by decide, by decide, by decide,
     by decide⟩,
   ⟨.enable .a .misfit, .a, .enable, shop, by decide, by decide, by decide, by decide, by decide, by decide,
     by decide⟩,
   ⟨.enable .m .misfit, .m, .enable, shop, by decide, by unfold State.ready; decide, by decide⟩⟩

theorem witness_OtherFramesAndReplies :
    (∃ (s : State) (p : PortId) (f : ByteFields) (q : PointId), (s.port p).replyOwed = none ∧ (s.port p).reply = none
      ∧ Sys2Proof.Machine.pointOf f.value = some q) ∧
    (∃ (s : State) (p : PortId), (s.port p).replyOwed = none ∧ (s.port p).reply = none) ∧
    (∃ (s : State) (p : PortId) (f : ByteFields), (s.port p).replyOwed = none ∧ (s.port p).reply = none ∧ f.value ≠
      1#8 ∧ f.value ≠ 2#8) ∧
    (∃ (s : State) (p : PortId) (kind : Byte) (code : Byte), (s.port p).replyOwed = none ∧ (s.port p).reply = none ∧
      knownFrame kind code = false) ∧
    (∃ (s : State) (p : PortId) (length : Byte), (s.port p).replyOwed = none ∧ (s.port p).reply = none ∧ 40 <
      length.toNat) ∧
    (∃ (s : State) (p : PortId), ((s.port p).replyOwed ≠ none ∨ (s.port p).reply ≠ none)) ∧
    (∃ (s : State) (p : PortId), (s.port p).reply ≠ none) ∧
    (∃ (s : State) (p : PortId), ∃ at_, (s.port p).lastByteAt = some at_) :=
  ⟨⟨shop, .a, ⟨2⟩, .p2, by decide, by decide, by decide⟩,
   ⟨shop, .a, by decide, by decide⟩,
   ⟨shop, .a, ⟨3⟩, by decide, by decide, by decide, by decide⟩,
   ⟨shop, .a, commandKind, 0, by decide, by decide, by decide⟩,
   ⟨shop, .a, 41, by decide, by decide, by decide⟩,
   ⟨shop.respond .a 0x10 .done [1, 0, 0], .a, by decide⟩,
   ⟨shop.respond .a 0x10 .done [1, 0, 0], .a, by decide⟩,
   ⟨shop.updPort .a (fun x => { x with lastByteAt := some 0 }), .a, 0, by decide⟩⟩

theorem witness_ResetsLeaveWhatTheyKeep :
    (∃ (s : State), s.startUp.resetPending = true ∧ (s.port .m).replyOwed ≠ some .resetCommand) ∧
    (∃ (s : State), (s.startUp.resetPending = false ∨ (s.port .m).replyOwed = some .resetCommand)) :=
  ⟨⟨shop.setStartUp ⟨true, false, 0, true⟩, by decide, by decide⟩,
   ⟨shop, by decide⟩⟩

theorem witness_StartUpEnds :
    (∃ (s : State), s.startUp.settling = true ∧ s.enginesRest) ∧
    (∃ (s : State), s.startUpDone = true ∧ s.enginesRest) ∧
    (∃ (s : State), s.startUpDone = false) ∧
    (∃ (s : State) (first : Requester), s.startUp.settling = true ∧ s.enginesRest ∧ s.bus.holder = none ∧ s.bus.round
      = [] ∧ first ∈ s.bus.waiting ∧ (∀ x ∈ s.bus.waiting, requesterOrder.findIdx (· == first) ≤
      requesterOrder.findIdx (· == x)) ∧ (first = .reconciler → ∃ w ∈ s.reconciler.work, s.stays w)) ∧
    (∃ (s : State), ∃ k, s.startUpDone = true ∧ s.enginesRest ∧ (k = .storeFault ∨ k = .cashboxFull ∨ k =
      .cashboxRemoved) ∧ s.levelHolds k = true) ∧
    (∃ (s : State) (i : Slot) (r : Rec) (moment : Time), s.startUpDone = true ∧ s.enginesRest ∧ s.slot i = some r ∧
      r.state = .settled ∧ r.lapseAt = some moment ∧ s.tagsDistinct ∧ reached s.time moment = true) ∧
    (∃ (s : State) (p : PointId) (i : Slot) (r : Rec) (moment : Time), s.startUpDone = true ∧ s.enginesRest ∧ s.slot i
      = some r ∧ r.state = .settled ∧ r.lapseAt = some moment ∧ s.tagsDistinct ∧ reached s.time moment = false ∧
      (s.point p).queue = [] ∧ (s.point (otherPoint p)).queue = []) :=
  ⟨⟨State.reset, by decide, engines_of (by decide)⟩,
   ⟨shop.setStartUp ⟨false, false, 0, false⟩, by decide, engines_of (by decide)⟩,
   ⟨State.reset, by decide⟩,
   ⟨State.reset.setBus { Bus.reset with waiting := [.poller, .intake .p1] }, .intake .p1, by decide,
     engines_of (by decide), by decide, by decide, by decide, by decide, fun h => nomatch h⟩,
   ⟨(shop.setCashbox ⟨7, 700, 0, 0, .inPlace, .full⟩).setStartUp ⟨false, false, 0, false⟩, .cashboxFull, by decide,
     engines_of (by decide), by decide, by decide⟩,
   ⟨((reserved.at7 settled).setStartUp ⟨false, false, 0, false⟩).setTime 18000, 0, settled, 18000, by decide,
     engines_of (by decide), by decide, by decide, by decide, tags_of (by decide), by decide⟩,
   ⟨((reserved.at7 settled).setStartUp ⟨false, false, 0, false⟩).setTime 17999, .p1, 0, settled, 18000, by decide,
     engines_of (by decide), by decide, by decide, by decide, tags_of (by decide), by decide, by decide, by decide⟩⟩

end Sys2Proof.Machine
end

section
/-! PROOFS. The figures the store table answers with (R14, R15), the level bands (R172), and the taking of a fault by a
bank (R169). -/

namespace Sys2Proof.Machine

/-! ### Usability and availability (R8, R14, R15) -/

theorem Store.working_iff (r : Store) : r.working = true ↔ r.state = .active ∨ r.state = .empty := by
  simp [Store.working]

theorem Store.usable_iff (r : Store) :
    r.usable = true ↔ (r.state = .active ∨ r.state = .empty) ∧ r.unverified = false := by
  simp [Store.usable, Store.working_iff]

theorem Store.accepts_iff (r : Store) :
    r.accepts = true ↔ (r.state = .active ∨ r.state = .empty) ∧ r.nearFull = false ∧ r.unverified = false := by
  simp [Store.accepts, Store.working_iff, and_assoc]

theorem Store.freeCount_of_usable {r : Store} (h : r.usable = true) : r.freeCount = r.count - r.reserved :=
  if_pos h

theorem Store.freeCount_of_not_usable {r : Store} (h : r.usable = false) : r.freeCount = 0 := by
  simp [Store.freeCount, h]

theorem Store.firstPass_eq (r : Store) : r.firstPass = r.freeCount - r.cfg.floor := rfl

theorem Store.secondPass_eq (r : Store) : r.secondPass = r.freeCount := rfl

/-- R15 for a store usable for planning: the floor is kept back in the first pass alone. -/
theorem Store.availability_of_usable {r : Store} (h : r.usable = true) :
    r.freeCount = r.count - r.reserved ∧ r.firstPass = r.count - r.reserved - r.cfg.floor
      ∧ r.secondPass = r.count - r.reserved := by
  rw [Store.firstPass_eq, Store.secondPass_eq, Store.freeCount_of_usable h]
  exact ⟨rfl, rfl, rfl⟩

/-- R15 for a store not usable: it offers the planner nothing. -/
theorem Store.availability_of_not_usable {r : Store} (h : r.usable = false) :
    r.freeCount = 0 ∧ r.firstPass = 0 ∧ r.secondPass = 0 := by
  rw [Store.firstPass_eq, Store.secondPass_eq, Store.freeCount_of_not_usable h]
  exact ⟨rfl, Nat.zero_sub _, rfl⟩

/-! ### Level bands (R172) -/

@[simp] theorem bandLower_empty (c : StoreCfg) : bandLower c .empty = 0 := rfl
@[simp] theorem bandLower_low (c : StoreCfg) : bandLower c .low = 1 := rfl
@[simp] theorem bandLower_mid (c : StoreCfg) : bandLower c .mid = c.low + 1 := rfl
@[simp] theorem bandLower_high (c : StoreCfg) : bandLower c .high = c.high := rfl
@[simp] theorem bandLower_full (c : StoreCfg) : bandLower c .full = c.routeLimit := rfl

@[simp] theorem bandUpper_empty (c : StoreCfg) : bandUpper c .empty = 0 := rfl
@[simp] theorem bandUpper_low (c : StoreCfg) : bandUpper c .low = max 1 c.low := rfl
@[simp] theorem bandUpper_mid (c : StoreCfg) : bandUpper c .mid = max (c.low + 1) (c.high - 1) := rfl
@[simp] theorem bandUpper_high (c : StoreCfg) : bandUpper c .high = max c.high (c.routeLimit - 1) := rfl
@[simp] theorem bandUpper_full (c : StoreCfg) : bandUpper c .full = max c.routeLimit c.capacity := rfl

/-! ### A fault taken by a bank (R169) -/

theorem Bank.take_of_empty {b : Bank} (h : b.capture = none) (f : Capture) : b.take f = ⟨false, some f⟩ := by
  simp [Bank.take, h]

/-- A bank that holds a capture overflows, and gives the capture up only to an UNCORRECTED fault over a lesser one. -/
theorem Bank.take_of_held {b : Bank} {held : Capture} (h : b.capture = some held) (f : Capture) :
    b.take f
      = ⟨true, some (if held.code.uncorrected = false ∧ f.code.uncorrected = true then f else held)⟩ := by
  by_cases worse : held.code.uncorrected = false ∧ f.code.uncorrected = true <;> simp [Bank.take, h, worse]

/-- Settles O49: the conditions of R14 and the figures of R15 by whether the store is usable, R172's bounds band by band,
R169 by whether the bank holds a capture. -/
theorem figuresOfAStore : Obligations.FiguresOfAStore := by
  refine ⟨fun r => ?stores, fun c => ?bands, fun b f => ?banks⟩
  case stores =>
    exact ⟨r.usable_iff, r.accepts_iff, Store.availability_of_usable, Store.availability_of_not_usable⟩
  case bands =>
    simp only [bandLower_empty, bandUpper_empty, bandLower_low, bandUpper_low, bandLower_mid, bandUpper_mid,
      bandLower_high, bandUpper_high, bandLower_full, bandUpper_full, and_self]
  case banks =>
    exact ⟨fun h => Bank.take_of_empty h f, fun _ h => Bank.take_of_held h f⟩

end Sys2Proof.Machine
end

section
/-! PROOFS. What a command at a port leaves unchanged, composed operation by operation, and what it answers (R185). -/

namespace Sys2Proof.Machine

/-! ### Frames composed -/

theorem Frame.trans {a b : List Part} {s u t : State} (h : Frame a s u) (g : Frame b u t) : Frame (a ++ b) s t := by
  refine ⟨g.1.trans h.1, fun part hp => ?_⟩
  have hs := h.2 part (fun m => hp (List.mem_append_left b m))
  have ht := g.2 part (fun m => hp (List.mem_append_right a m))
  cases part
  case points => exact fun p => (ht p).trans (hs p)
  all_goals exact Eq.trans ht hs

theorem Frame.mono {a b : List Part} {s t : State} (h : Frame a s t) (sub : a ⊆ b) : Frame b s t :=
  ⟨h.1, fun part hp => h.2 part (fun m => hp (sub m))⟩

theorem Frame.taken (s : State) (p : PortId) (c : Cmd) : Frame [.ports] s (s.taken p c) := by
  refine ⟨by simp, fun part hp => ?_⟩
  cases part
  case points => exact s.taken_core p c
  all_goals simp_all [Part.same]

theorem Frame.done (s : State) (k : Taken) (c : Cmd) (x : Status) (b : List Byte) :
    Frame [.ports, .free] s (s.done k c x b) :=
  ⟨by simp, fun part hp => by cases part <;> simp_all [Part.same, State.point]⟩

theorem Frame.refreshMasks (s : State) : Frame [] s s.refreshMasks :=
  ⟨by simp, fun part _ => by cases part <;> simp [Part.same]⟩

theorem Frame.setSlot (s : State) (i : Slot) (x : Option Rec) : Frame [.records] s (s.setSlot i x) :=
  ⟨rfl, fun part hp => by cases part <;> simp_all [Part.same]⟩

theorem Frame.updRec (s : State) (i : Slot) (f : Rec → Rec) : Frame [.records] s (s.updRec i f) :=
  ⟨by simp, fun part hp => by cases part <;> simp_all [Part.same, State.point]⟩

theorem Frame.release (s : State) (i : Slot) : Frame [.records, .stores] s (s.release i) :=
  ⟨by simp, fun part hp => by cases part <;> simp_all [Part.same, State.point]⟩

theorem Frame.unbindTag (s : State) (tag : Nat) : Frame [.points] s (s.unbindTag tag) :=
  ⟨by simp, fun part hp => by cases part <;> simp_all [Part.same]⟩

/-! ### Reading a state that has answered -/

@[simp] theorem State.done_slot (s : State) (k : Taken) (c : Cmd) (x : Status) (b : List Byte) (i : Slot) :
    (s.done k c x b).slot i = s.slot i := State.slot_congr (by simp) i

@[simp] theorem State.done_store (s : State) (k : Taken) (c : Cmd) (x : Status) (b : List Byte) (i : Station) :
    (s.done k c x b).store i = s.store i := State.store_congr (by simp) i

@[simp] theorem State.done_point (s : State) (k : Taken) (c : Cmd) (x : Status) (b : List Byte) (p : PointId) :
    (s.done k c x b).point p = s.point p := State.point_congr (by simp) p

/-- A command taken, answered on ports that nothing else has changed, and the masks renewed (R93). -/
theorem Answered.of_answer {s s' : State} {p : PortId} {c : Cmd} {x : Status} {b : List Byte}
    (h : s'.ports = (s.taken p c).ports) : Answered s (s'.done (s.qualifiers p) c x b).refreshMasks p c x b := by
  obtain ⟨own, others⟩ := Answered.of_done (c := c) (x := x) (b := b) h
  exact ⟨by simpa using own, fun q hq => by simpa using others q hq⟩

theorem Frame.of_answer {s s' : State} {p : PortId} {c : Cmd} {changed : List Part}
    (h : Frame changed (s.taken p c) s') (x : Status) (b : List Byte) :
    Frame (changed ++ [.ports, .free]) s (s'.done (s.qualifiers p) c x b).refreshMasks :=
  ((((Frame.taken s p c).trans h).trans (Frame.done s' _ c x b)).trans (Frame.refreshMasks _)).mono (by simp)

/-- A command that only answers: a refusal, or DONE with nothing done. -/
theorem State.only_answers (s : State) (p : PortId) (c : Cmd) (x : Status) (b : List Byte) :
    ∃ t, (Host.Outcome.next ((s.taken p c).done (s.qualifiers p) c x b) : Answer) = .next t
      ∧ Answered s t p c x b ∧ Frame [.ports, .free] s t :=
  ⟨_, rfl, Answered.of_done rfl, ((Frame.taken s p c).trans (Frame.done _ _ c x b)).mono (by simp)⟩

/-! ### Points and masks -/

/-- What R99 reads of a point is kept by its core. -/
theorem Point.queueSettled_congr {x y : Point} (h : y.core = x.core) (hx : x.queueSettled) : y.queueSettled := by
  have hq : y.core.queue = x.core.queue := congrArg Point.queue h
  simp only [Point.core] at hq
  simpa only [Point.queueSettled, hq] using hx

theorem State.refreshMask_point_ne (s : State) {p q : PointId} (h : p ≠ q) :
    (s.refreshMask p).point q = s.point q := by
  unfold State.refreshMask State.sendMask State.send
  dsimp only
  split <;> simp [State.point_setPoint_ne, h]

theorem State.refreshMask_mask (s : State) (p : PointId) : ((s.refreshMask p).point p).mask = s.acceptMask p := by
  unfold State.refreshMask State.sendMask State.send
  dsimp only
  split <;> simp

/-- R92: a point that nothing is bound to takes nothing. -/
theorem State.acceptMask_unbound {s : State} {p : PointId} (h : (s.point p).binding = .none) : s.acceptMask p = [] := by
  simp [State.acceptMask, State.inhibited, State.creditTaking, h]

/-- R93: the end of the action shuts the acceptor of a point that nothing is bound to. -/
theorem State.refreshMasks_mask_unbound {s : State} {p : PointId} (h : (s.point p).binding = .none) :
    (s.refreshMasks.point p).mask = [] := by
  cases p with
  | p1 =>
    rw [State.refreshMasks, State.refreshMask_point_ne _ (by decide), State.refreshMask_mask,
      State.acceptMask_unbound h]
  | p2 =>
    rw [State.refreshMasks, State.refreshMask_mask, State.acceptMask_unbound]
    rw [State.refreshMask_point_ne _ (by decide), h]

/-! ### The record in a slot -/

@[simp] theorem State.slot_updRec (s : State) (i : Slot) (f : Rec → Rec) :
    (s.updRec i f).slot i = (s.slot i).map f := by
  unfold State.updRec
  split <;> simp_all

theorem State.slot_updRec_ne (s : State) {i j : Slot} (f : Rec → Rec) (h : j ≠ i) :
    (s.updRec i f).slot j = s.slot j := by
  unfold State.updRec
  split
  · exact State.slot_setSlot_ne _ _ _ _ h.symm
  · rfl

@[simp] theorem State.store_updRec (s : State) (i : Slot) (f : Rec → Rec) (st : Station) :
    (s.updRec i f).store st = s.store st := State.store_congr (by simp) st

@[simp] theorem State.point_updRec (s : State) (i : Slot) (f : Rec → Rec) (p : PointId) :
    (s.updRec i f).point p = s.point p := State.point_congr (by simp) p

@[simp] theorem State.point_release (s : State) (i : Slot) (p : PointId) : (s.release i).point p = s.point p :=
  State.point_congr (by simp) p

theorem State.pointOf_points {s t : State} (h : t.points = s.points) (tag : Nat) : t.pointOf tag = s.pointOf tag := by
  simp [State.pointOf, h]

/-- R40: only the point bound to the tag changes, and of it only the binding. -/
theorem State.point_unbindTag (s : State) (tag : Nat) (q : PointId) :
    (s.unbindTag tag).point q
      = if s.pointOf tag = some q then { s.point q with binding := .none } else s.point q := by
  unfold State.unbindTag
  cases hp : s.pointOf tag with
  | none => simp
  | some p =>
    by_cases e : p = q
    · subst e; simp
    · simp [e, State.point_setPoint_ne]

/-- R99: with no credit waiting at the record's point, unbinding it applies nothing. -/
theorem State.unbound_eq_unbindTag {s : State} {tag : Nat}
    (h : ∀ q, s.pointOf tag = some q → (s.point q).queueSettled) : s.unbound tag = s.unbindTag tag := by
  unfold State.unbound State.unbindTag State.rebind
  cases hp : s.pointOf tag with
  | none => rfl
  | some p => exact State.applyCredits_settled (by simpa [Point.queueSettled] using h p hp)

/-! ### The record a command names (R35) -/

theorem State.taken_holds {s : State} {tag : BitVec 16} {i : Slot} {r : Rec} (h : s.holds tag i r) (p : PortId)
    (c : Cmd) : (s.taken p c).holds tag i r := by
  simpa [State.holds] using h

theorem State.holds.slot_eq {s : State} {tag : BitVec 16} {i : Slot} {r : Rec} (h : s.holds tag i r) :
    s.slot i = some r := h.2.2.1

theorem State.withRecord_holds {s : State} {tag : BitVec 16} {i : Slot} {r : Rec} (h : s.holds tag i r) (k : Taken)
    (c : Cmd) (rule : Slot → Rec → Answer) : s.withRecord k c tag true rule = rule i r := by
  simp [State.withRecord, h.1, State.lookup_holds h]

theorem moneyFits_eq_true_iff (v : BitVec 24) : moneyFits v = true ↔ v.toNat ≤ 99999 := by
  unfold moneyFits moneyMax
  exact decide_eq_true_iff

end Sys2Proof.Machine
end

section
/-! PROOFS. OPEN into a free slot (R35 to R37). -/

namespace Sys2Proof.Machine

/-! ### The lowest free slot (R25) -/

/-- The slots are searched in ascending order, so the first that passes is the lowest. -/
theorem find_allSlots {f : Slot → Bool} {i : Slot} (hi : f i = true) (below : ∀ j, j < i → f j = false) :
    allSlots.find? f = some i := by
  have sorted : allSlots.Pairwise (· < ·) := by decide
  rw [List.find?_eq_some_iff_append]
  obtain ⟨before, after, split⟩ := List.append_of_mem (mem_allSlots i)
  refine ⟨hi, before, after, split, fun j hj => ?_⟩
  rw [split, List.pairwise_append] at sorted
  simpa using below j (sorted.2.2 j hj i (by simp))

theorem State.lowestFree_eq {s : State} {i : Slot} (free : s.slot i = none)
    (below : ∀ j, j < i → s.slot j ≠ none) : s.lowestFree = some i :=
  find_allSlots (by simp [free]) fun j hj => by simpa [Option.isSome_iff_ne_none] using below j hj

@[simp] theorem State.taken_findTag (s : State) (p : PortId) (c : Cmd) (tag : Nat) :
    (s.taken p c).findTag tag = s.findTag tag := by
  simp [State.findTag]

/-! ### The rule of OPEN, by case -/

/-- R36: the reply to an OPEN that reclaimed nothing. -/
theorem openReply_zero (i : Slot) : openReply i 0 = BitVec.ofNat 8 (i.val + 1) :: [0#8, 0#8] := by
  simp [openReply, bytesOf]

theorem execOpenRecord_ready {s : State} {p : PortId} (hp : s.ready p .openRecord) {f : OpenFields} {kind : RecKind}
    (hk : recKindOf f.kind = some kind) :
    exec (.openRecord p (.fits f)) s = ruleOpen (s.taken p .openRecord) (s.qualifiers p) (f, kind) :=
  State.takeCommand_ready hp (by simp [OpenFields.formed, hk]) ruleOpen

theorem ruleOpen_of_tag_zero {s : State} {f : OpenFields} (h : f.tag = 0#16) (k : Taken) (kind : RecKind) :
    ruleOpen s k (f, kind) = s.refuse k .openRecord .range := by
  simp [ruleOpen, h]

theorem ruleOpen_of_live {s : State} {f : OpenFields} (tag : f.tag ≠ 0#16) (due : f.due.toNat ≤ 99999)
    (live : (s.findTag f.tag.toNat).isSome = true) (k : Taken) (kind : RecKind) :
    ruleOpen s k (f, kind) = s.refuse k .openRecord .duplicate := by
  simp [ruleOpen, tag, (moneyFits_eq_true_iff _).2 due, live]

theorem ruleOpen_of_free {s : State} {f : OpenFields} {i : Slot} (tag : f.tag ≠ 0#16) (due : f.due.toNat ≤ 99999)
    (new : s.findTag f.tag.toNat = none) (free : s.lowestFree = some i) (k : Taken) (kind : RecKind) :
    ruleOpen s k (f, kind)
      = ((s.setSlot i (some (Rec.fresh s.system.unit s.time f.tag.toNat kind f.due.toNat))).done k .openRecord .done
          (openReply i 0)).answer := by
  simp [ruleOpen, tag, (moneyFits_eq_true_iff _).2 due, new, free]

/-- Settles O10: R35's order of the refusals, then the lowest free slot takes the record of R36. -/
theorem openTakesTheLowestFreeSlot : Obligations.OpenTakesTheLowestFreeSlot := by
  intro s p f kind i hp
  refine ⟨fun hk tag => ?range, fun hk tag due live => ?duplicate, fun hk tag due new free below => ?opened⟩
  case range =>
    rw [execOpenRecord_ready hp hk, ruleOpen_of_tag_zero tag]
    exact s.only_answers p _ _ _
  case duplicate =>
    rw [execOpenRecord_ready hp hk, ruleOpen_of_live tag due (by simpa using live)]
    exact s.only_answers p _ _ _
  case opened =>
    have hnew : (s.taken p .openRecord).findTag f.tag.toNat = none := by
      rw [State.taken_findTag, State.findTag_none new]
    have hfree : (s.taken p .openRecord).lowestFree = some i :=
      State.lowestFree_eq (by simpa using free) (by simpa using below)
    rw [execOpenRecord_ready hp hk, ruleOpen_of_free tag due hnew hfree, openReply_zero]
    refine ⟨_, rfl, ?_, fun j hj => ?_, Answered.of_answer rfl, ?_⟩
    · simp [Rec.fresh]
    · simp [State.slot_setSlot_ne _ _ _ _ hj.symm]
    · exact (Frame.of_answer (Frame.setSlot _ i _) _ _).mono (by simp)

end Sys2Proof.Machine
end

section
/-! PROOFS. The ends of a record and the change of its due: CLOSE-SHORT (R45), VOID (R44), AMEND (R39). -/

namespace Sys2Proof.Machine

/-! ### The rule of CLOSE-SHORT, by state -/

theorem execCloseShort_ready {s : State} {p : PortId} (hp : s.ready p .closeShort) (f : TagFields) :
    exec (.closeShort p (.fits f)) s = ruleCloseShort (s.taken p .closeShort) (s.qualifiers p) f :=
  State.takeCommand_ready hp rfl ruleCloseShort

section
variable {s : State} {f : TagFields} {i : Slot} {r : Rec} (h : s.holds f.tag i r) (k : Taken)
include h

theorem ruleCloseShort_of_paying (hr : r.state = .paying) :
    ruleCloseShort s k f = s.refuse k .closeShort .busy := by
  simp [ruleCloseShort, State.withRecord_holds h, hr]

theorem ruleCloseShort_of_ended (hr : r.state = .settled ∨ r.state = .paid ∨ r.state = .void) :
    ruleCloseShort s k f = s.refuse k .closeShort .state := by
  rcases hr with hr | hr | hr <;> simp [ruleCloseShort, State.withRecord_holds h, hr]

theorem ruleCloseShort_of_unpaid
    (hr : r.state = .opened ∨ r.state = .tendering ∨ r.state = .partPaid ∨ r.state = .interrupted)
    (owed : r.owed = none) :
    ruleCloseShort s k f = .next (s.done k .closeShort .shortTender (bytesOf 3 r.balanceDue)) := by
  rcases hr with hr | hr | hr | hr <;> simp [ruleCloseShort, State.withRecord_holds h, hr, Rec.remaining, owed]

theorem ruleCloseShort_of_owed {owed : Nat}
    (hr : r.state = .opened ∨ r.state = .tendering ∨ r.state = .partPaid ∨ r.state = .interrupted)
    (ho : r.owed = some owed) :
    ruleCloseShort s k f
      = ((s.updRec i (fun x => { x.enter .paid s.time with shortfall := shortMark (owed - r.paid) })).done k .closeShort
          .done (bytesOf 3 (owed - r.paid))).answer := by
  rcases hr with hr | hr | hr | hr <;> simp [ruleCloseShort, State.withRecord_holds h, hr, Rec.remaining, ho]

end

/-- Settles O17, by the record's state and whether it has owed. -/
theorem closeShortEndsWithTheRemaining : Obligations.CloseShortEndsWithTheRemaining := by
  intro s p f i r hp h
  have ht := State.taken_holds h p .closeShort
  rw [execCloseShort_ready hp]
  refine ⟨fun hr => ?busy, fun hr => ?state, fun hr => ⟨fun ho hk => ?shortTender, fun owed ho => ?paid⟩⟩
  case busy =>
    rw [ruleCloseShort_of_paying ht _ hr]
    exact s.only_answers p _ _ _
  case state =>
    rw [ruleCloseShort_of_ended ht _ hr]
    exact s.only_answers p _ _ _
  case shortTender =>
    have balance : r.balanceDue = r.due - r.tendered := by simp [Rec.balanceDue, hk]
    rw [ruleCloseShort_of_unpaid ht _ hr ho, balance]
    exact s.only_answers p _ _ _
  case paid =>
    rw [ruleCloseShort_of_owed ht _ hr ho]
    refine ⟨_, rfl, ?_, fun j hj => ?_, Answered.of_answer (by simp), ?_⟩
    · simp [h.slot_eq, Rec.enter, Rec.leavePlan, shortMark]
    · simp [State.slot_updRec_ne _ _ hj]
    · exact (Frame.of_answer (Frame.updRec _ i _) _ _).mono (by simp)

/-- R39, R44: the states in which a record may still be amended or voided. -/
theorem RecState.underway_cases {x : RecState} (paying : x ≠ .paying) (paid : x ≠ .paid) (void : x ≠ .void) :
    x = .opened ∨ x = .tendering ∨ x = .settled ∨ x = .partPaid ∨ x = .interrupted := by
  cases x <;> simp_all

/-! ### The rule of VOID, by state -/

theorem execVoidRecord_ready {s : State} {p : PortId} (hp : s.ready p .voidRecord) (f : TagFields) :
    exec (.voidRecord p (.fits f)) s = ruleVoid (s.taken p .voidRecord) (s.qualifiers p) f :=
  State.takeCommand_ready hp rfl ruleVoid

/-- R44: the record released, taken to VOID, and its point unbound. -/
def State.voided (s : State) (i : Slot) (tag : Nat) : State :=
  ((s.release i).updRec i (fun x => x.enter .void s.time)).unbindTag tag

section
variable {s : State} {f : TagFields} {i : Slot} {r : Rec} (h : s.holds f.tag i r) (k : Taken)
include h

theorem ruleVoid_of_paying (hr : r.state = .paying) : ruleVoid s k f = s.refuse k .voidRecord .busy := by
  simp [ruleVoid, State.withRecord_holds h, hr]

theorem ruleVoid_of_paid (hr : r.state = .paid) : ruleVoid s k f = s.refuse k .voidRecord .state := by
  simp [ruleVoid, State.withRecord_holds h, hr]

theorem ruleVoid_of_void (hr : r.state = .void) : ruleVoid s k f = .next (s.done k .voidRecord .done []) := by
  simp [ruleVoid, State.withRecord_holds h, hr]

theorem ruleVoid_of_cash
    (underway : r.state = .opened ∨ r.state = .tendering ∨ r.state = .settled ∨ r.state = .partPaid
      ∨ r.state = .interrupted)
    (cash : 0 < r.tendered ∨ 0 < r.paid) : ruleVoid s k f = s.refuse k .voidRecord .hasCash := by
  rcases underway with hr | hr | hr | hr | hr <;> simp [ruleVoid, State.withRecord_holds h, hr, cash]

theorem ruleVoid_of_empty
    (underway : r.state = .opened ∨ r.state = .tendering ∨ r.state = .settled ∨ r.state = .partPaid
      ∨ r.state = .interrupted)
    (tendered : r.tendered = 0) (paid : r.paid = 0)
    (settled : ∀ q, s.pointOf r.tag = some q → (s.point q).queueSettled) :
    ruleVoid s k f = ((s.voided i r.tag).done k .voidRecord .done []).answer := by
  have unbinds : ((s.release i).updRec i (fun x => x.enter .void s.time)).unbound r.tag = s.voided i r.tag :=
    State.unbound_eq_unbindTag (by simpa [State.pointOf_points (s := s)] using settled)
  rcases underway with hr | hr | hr | hr | hr <;>
    simp [ruleVoid, State.withRecord_holds h, hr, tendered, paid, unbinds]

end

/-- What VOID does to an unpaid record and to the points, its credits settled. -/
theorem State.voided_spec {s : State} {i : Slot} {r : Rec} (hs : s.slot i = some r)
    (nodup : (r.list.map Entry.station).Nodup) :
    (s.voided i r.tag).slot i = some
        { r with
          state := .void, stateSince := s.time, list := [], pinned := false, planned := none, delivered := none
          lapseAt := none, settledFrom := none
          listChange := if r.list = [] then r.listChange else r.listChange + 1#8 }
      ∧ OtherSlots i s (s.voided i r.tag) ∧ Released r.list s (s.voided i r.tag)
      ∧ (∀ q, (s.voided i r.tag).point q
          = if s.pointOf r.tag = some q then { s.point q with binding := .none } else s.point q)
      ∧ Frame [.records, .stores, .points] s (s.voided i r.tag) := by
  obtain ⟨slot, others, released⟩ := State.release_spec hs nodup
  have records := State.slot_congr (s := (s.release i).updRec i (fun x => x.enter .void s.time))
    (t := s.voided i r.tag) (by simp [State.voided])
  have stores := State.store_congr (s := (s.release i).updRec i (fun x => x.enter .void s.time))
    (t := s.voided i r.tag) (by simp [State.voided])
  refine ⟨?_, fun j hj => ?_, fun st => ?_, fun q => ?_, ?_⟩
  · simp [records, slot, Rec.enter, Rec.leavePlan]
  · rw [records, State.slot_updRec_ne _ _ hj, others j hj]
  · rw [stores, State.store_updRec, released st]
  · simp [State.voided, State.point_unbindTag, State.pointOf_points (s := s)]
  · exact (((Frame.release s i).trans (Frame.updRec _ i _)).trans (Frame.unbindTag _ r.tag)).mono (by simp)

/-- Settles O16, by the record's state and whether it handled money. -/
theorem voidEndsAnEmptyRecord : Obligations.VoidEndsAnEmptyRecord := by
  intro s p f i r hp h formed settled
  have ht := State.taken_holds h p .voidRecord
  rw [execVoidRecord_ready hp]
  refine ⟨fun hr => ?busy, fun hr => ?state, fun hr => ?again, fun paying unpaid live cash => ?hasCash,
    fun paying unpaid live tendered paid => ?voided⟩
  case busy =>
    rw [ruleVoid_of_paying ht _ hr]
    exact s.only_answers p _ _ _
  case state =>
    rw [ruleVoid_of_paid ht _ hr]
    exact s.only_answers p _ _ _
  case again =>
    rw [ruleVoid_of_void ht _ hr]
    exact s.only_answers p _ _ _
  case hasCash =>
    rw [ruleVoid_of_cash ht _ (RecState.underway_cases paying unpaid live) cash]
    exact s.only_answers p _ _ _
  case voided =>
    have quiet : ∀ q, (s.taken p .voidRecord).pointOf r.tag = some q →
        ((s.taken p .voidRecord).point q).queueSettled :=
      fun q hq => Point.queueSettled_congr (s.taken_core p _ q) (settled q (by simpa using hq))
    obtain ⟨slot, others, released, points, frame⟩ := State.voided_spec ht.slot_eq formed.1
    rw [ruleVoid_of_empty ht _ (RecState.underway_cases paying unpaid live) tendered paid quiet]
    refine ⟨_, rfl, ?_, fun j hj => ?_, fun st => ?_, fun q => ?_, fun q hq => ?_, Answered.of_answer ?_, ?_⟩
    · simp [slot]
    · simpa using others j hj
    · simpa using released st
    · rw [State.refreshMasks_core, State.done_point, points, State.taken_pointOf, ← s.taken_core p .voidRecord q]
      exact apply_ite Point.core _ _ _
    · exact State.refreshMasks_mask_unbound (by simp [points, hq])
    · exact frame.2 .ports (by simp)
    · exact (Frame.of_answer frame _ _).mono (by simp)

/-! ### The rule of AMEND, by state -/

theorem execAmend_ready {s : State} {p : PortId} (hp : s.ready p .amend) (f : AmendFields) :
    exec (.amend p (.fits f)) s = ruleAmend (s.taken p .amend) (s.qualifiers p) f :=
  State.takeCommand_ready hp rfl ruleAmend

section
variable {s : State} {f : AmendFields} {i : Slot} {r : Rec} (h : s.holds f.tag i r) (due : f.due.toNat ≤ 99999)
  (k : Taken)
include h due

theorem ruleAmend_of_paying (hr : r.state = .paying) : ruleAmend s k f = s.refuse k .amend .busy := by
  simp [ruleAmend, (moneyFits_eq_true_iff _).2 due, State.withRecord_holds h, hr]

theorem ruleAmend_of_final (hr : r.state = .paid ∨ r.state = .void) : ruleAmend s k f = s.refuse k .amend .state := by
  rcases hr with hr | hr <;> simp [ruleAmend, (moneyFits_eq_true_iff _).2 due, State.withRecord_holds h, hr]

theorem ruleAmend_of_cash
    (underway : r.state = .opened ∨ r.state = .tendering ∨ r.state = .settled ∨ r.state = .partPaid
      ∨ r.state = .interrupted)
    (cash : r.kind = .sale ∧ 0 < r.paid ∧ r.tendered < f.due.toNat) :
    ruleAmend s k f = s.refuse k .amend .hasCash := by
  rcases underway with hr | hr | hr | hr | hr <;>
    simp [ruleAmend, (moneyFits_eq_true_iff _).2 due, State.withRecord_holds h, hr, cash]

theorem ruleAmend_of_underway
    (underway : r.state = .opened ∨ r.state = .tendering ∨ r.state = .settled ∨ r.state = .partPaid
      ∨ r.state = .interrupted)
    (cash : ¬(r.kind = .sale ∧ 0 < r.paid ∧ r.tendered < f.due.toNat)) :
    ruleAmend s k f
      = (((s.unsettledByAmend i r).updRec i (Rec.amended s.system.unit f.due.toNat)).done k .amend .done
          (amendReply (r.amended s.system.unit f.due.toNat))).answer := by
  rcases underway with hr | hr | hr | hr | hr <;>
    simp [ruleAmend, (moneyFits_eq_true_iff _).2 due, State.withRecord_holds h, hr, cash]

end

/-- R39: the reply where the new due leaves owed present. -/
theorem amendReply_of_owed {unit due owed : Nat} {r : Rec} (h : owedOf unit r.kind due r.tendered = some owed) :
    amendReply (r.amended unit due) = 1#8 :: bytesOf 3 owed := by
  simp [amendReply, Rec.amended, h, boolByte]

/-- R39: the reply where the new due leaves owed absent, which only a SALE record's can. -/
theorem amendReply_of_not_owed {unit due : Nat} {r : Rec} (h : owedOf unit r.kind due r.tendered = none) :
    amendReply (r.amended unit due) = 0#8 :: bytesOf 3 (due - r.tendered) := by
  cases hk : r.kind with
  | sale => simp [amendReply, Rec.amended, Rec.balanceDue, hk, hk ▸ h, boolByte]
  | refund => simp [hk, owedOf] at h

/-- R39 step 1: what AMEND undoes of a settle, and that it leaves any other record as it is. -/
theorem State.unsettledByAmend_spec {s : State} {i : Slot} {r : Rec} (hs : s.slot i = some r)
    (nodup : (r.list.map Entry.station).Nodup) :
    (s.unsettledByAmend i r).slot i = some
        (if r.state = .settled then
          { r with
            list := [], listChange := if r.list = [] then r.listChange else r.listChange + 1#8
            pinned := false, planned := none, delivered := none, lapseAt := none, settledFrom := none
            stateSince := s.time, state := if (s.pointOf r.tag).isSome then .tendering else .opened }
         else r)
      ∧ OtherSlots i s (s.unsettledByAmend i r)
      ∧ Released (if r.state = .settled then r.list else []) s (s.unsettledByAmend i r)
      ∧ Frame [.records, .stores] s (s.unsettledByAmend i r) := by
  unfold State.unsettledByAmend
  by_cases hr : r.state = .settled
  · obtain ⟨slot, others, released⟩ := State.release_spec hs nodup
    simp only [if_pos hr]
    refine ⟨?_, fun j hj => ?_, fun st => ?_, ?_⟩
    · simp [slot, Rec.enter, Rec.leavePlan]
    · rw [State.slot_updRec_ne _ _ hj, others j hj]
    · rw [State.store_updRec, released st]
    · exact ((Frame.release s i).trans (Frame.updRec _ i _)).mono (by simp)
  · simp only [if_neg hr]
    exact ⟨hs, fun _ _ => rfl, fun _ => by simp [itemsAt], rfl, fun part _ => by cases part <;> simp [Part.same]⟩

/-- Settles O13, by the record's state and whether due would pass tendered after change was paid. -/
theorem amendSetsDue : Obligations.AmendSetsDue := by
  intro s p f i r hp h due formed
  have ht := State.taken_holds h p .amend
  rw [execAmend_ready hp]
  refine ⟨fun hr => ?busy, fun hr => ?state,
    fun paying unpaid live => ⟨fun cash => ?hasCash, fun cash => ?amended⟩⟩
  case busy =>
    rw [ruleAmend_of_paying ht due _ hr]
    exact s.only_answers p _ _ _
  case state =>
    rw [ruleAmend_of_final ht due _ hr]
    exact s.only_answers p _ _ _
  case hasCash =>
    rw [ruleAmend_of_cash ht due _ (RecState.underway_cases paying unpaid live) cash]
    exact s.only_answers p _ _ _
  case amended =>
    obtain ⟨slot, others, released, frame⟩ := State.unsettledByAmend_spec ht.slot_eq formed.1
    rw [ruleAmend_of_underway ht due _ (RecState.underway_cases paying unpaid live) cash]
    have frame' := frame.trans (Frame.updRec _ i (Rec.amended (s.taken p .amend).system.unit f.due.toNat))
    refine ⟨_, rfl, ?_, fun j hj => ?_, fun st => ?_, ?_, ?_⟩
    · by_cases hr : r.state = .settled <;> simp [slot, hr, Rec.amended]
    · rw [State.refreshMasks_slot, State.done_slot, State.slot_updRec_ne _ _ hj, others j hj, State.taken_slot]
    · rw [State.refreshMasks_store, State.done_store, State.store_updRec, released st, State.taken_store]
    · have unit : (s.taken p .amend).system.unit = s.system.unit := by simp
      rw [unit] at frame' ⊢
      cases ho : owedOf s.system.unit r.kind f.due.toNat r.tendered with
      | none => rw [amendReply_of_not_owed ho]; exact Answered.of_answer (frame'.2 .ports (by simp))
      | some owed => rw [amendReply_of_owed ho]; exact Answered.of_answer (frame'.2 .ports (by simp))
    · exact (Frame.of_answer frame' _ _).mono (by simp)

end Sys2Proof.Machine
end

section
/-! PROOFS. The rounding of R51 and the chosen split of R57 and R58. -/

namespace Sys2Proof.Machine

/-! ### Rounding (R51) -/

/-- R51 between two multiples: the higher one is taken from the halfway point on, unless it passes 99,999. -/
theorem roundTo_of_between {u v : Nat} (h : 0 < v % u) :
    roundTo u v = if u ≤ 2 * (v % u) ∧ v - v % u + u ≤ 99999 then v - v % u + u else v - v % u := by
  have division : v / u * u + v % u = v := Nat.div_add_mod' v u
  simp only [roundTo, moneyMax]
  split_ifs <;> omega

theorem roundTo_of_multiple {u v : Nat} (h : v % u = 0) : roundTo u v = v := by
  have division : v / u * u + v % u = v := Nat.div_add_mod' v u
  have exact : v / u * u = v := by omega
  simp [roundTo, exact]

/-- Settles O19, by whether the value is a multiple and, between two, by the side of the halfway point. -/
theorem roundingTakesTheNearerMultiple : Obligations.RoundingTakesTheNearerMultiple := by
  refine ⟨fun u v _ _ => ⟨roundTo_of_multiple, fun between low => ?lower, fun between high fits => ?higher,
    fun between high past => ?capped⟩, fun u due tendered => ⟨fun enough => ?sale, rfl⟩⟩
  case lower => rw [roundTo_of_between between, if_neg (by omega)]
  case higher => rw [roundTo_of_between between, if_pos ⟨high, fits⟩]
  case capped => rw [roundTo_of_between between, if_neg (by omega)]
  case sale => exact if_pos enough

/-! ### The denominations planned over (R55) -/

theorem mem_insertDenomination {d e : Nat} {es : List Nat} : e ∈ insertDenomination d es ↔ e = d ∨ e ∈ es := by
  induction es with
  | nil => simp [insertDenomination]
  | cons x xs ih =>
    unfold insertDenomination
    split_ifs with same above
    · simp [same]
    · simp
    · simp [ih, or_left_comm]

theorem pairwise_insertDenomination (d : Nat) {es : List Nat} (h : es.Pairwise (fun d e => e < d)) :
    (insertDenomination d es).Pairwise (fun d e => e < d) := by
  induction es with
  | nil => simp [insertDenomination]
  | cons x xs ih =>
    obtain ⟨head, tail⟩ := List.pairwise_cons.1 h
    unfold insertDenomination
    split_ifs with same above
    · exact h
    · refine List.pairwise_cons.2 ⟨fun e he => ?_, h⟩
      rcases List.mem_cons.1 he with rfl | he
      · exact above
      · exact (head e he).trans above
    · refine List.pairwise_cons.2 ⟨fun e he => ?_, ih tail⟩
      rcases mem_insertDenomination.1 he with rfl | he
      · omega
      · exact head e he

theorem denominations_pairwise (os : List Offer) : (denominations os).Pairwise (fun d e => e < d) := by
  induction os with
  | nil => exact .nil
  | cons o os ih => exact pairwise_insertDenomination o.denomination ih

theorem measures_map_fst (os : List Offer) : (measures os).map Prod.fst = denominations os := by
  simp [measures, Function.comp_def]

/-! ### Counts lowered one by one (R58) -/

theorem tryDown_eq_none_iff {α : Type} {f : Nat → Option α} {n : Nat} :
    tryDown f n = none ↔ ∀ m, m ≤ n → f m = none := by
  induction n with
  | zero => simp [tryDown]
  | succ n ih =>
    simp only [tryDown, Nat.le_succ_iff, or_imp, forall_and, forall_eq]
    cases f (n + 1) <;> simp [ih]

/-- The count found succeeds, and every larger one up to the first tried fails. -/
theorem tryDown_eq_some {α : Type} {f : Nat → Option α} {n : Nat} {a : α} (h : tryDown f n = some a) :
    ∃ m, m ≤ n ∧ f m = some a ∧ ∀ k, m < k → k ≤ n → f k = none := by
  induction n with
  | zero => exact ⟨0, le_rfl, h, fun k _ _ => by omega⟩
  | succ n ih =>
    unfold tryDown at h
    cases top : f (n + 1) with
    | some b => exact ⟨n + 1, le_rfl, by simpa [top] using h, fun k _ _ => by omega⟩
    | none =>
      obtain ⟨m, hm, found, above⟩ := ih (by simpa [top] using h)
      refine ⟨m, by omega, found, fun k hk hn => ?_⟩
      rcases Nat.le_succ_iff.1 hn with hn | rfl
      · exact above k hk hn
      · exact top

/-! ### Admissible splits (R56) -/

@[simp] theorem admissible_nil {limit target : Nat} {ns : List Nat} :
    Admissible [] limit target ns ↔ ns = [] ∧ target = 0 := by
  cases ns <;> simp [Admissible, eq_comm]

/-- A split is admissible when its first count fits and the others are admissible for what that count leaves. -/
theorem admissible_cons {d available limit target n : Nat} {rest : List (Nat × Nat)} {ns : List Nat} :
    Admissible ((d, available) :: rest) limit target (n :: ns)
      ↔ n ≤ available ∧ n ≤ limit ∧ n * d ≤ target ∧ Admissible rest (limit - n) (target - n * d) ns := by
  simp only [Admissible, List.forall₂_cons, List.sum_cons, List.zip_cons_cons, List.map_cons]
  constructor
  · rintro ⟨⟨fits, others⟩, items, value⟩
    exact ⟨fits, by omega, by omega, others, by omega, by omega⟩
  · rintro ⟨fits, items, value, others, items', value'⟩
    exact ⟨⟨fits, others⟩, by omega, by omega⟩

theorem Admissible.exists_cons {x : Nat × Nat} {rest : List (Nat × Nat)} {limit target : Nat} {ns : List Nat}
    (h : Admissible (x :: rest) limit target ns) : ∃ n ns', ns = n :: ns' := by
  obtain ⟨fits, -, -⟩ := h
  cases fits
  exact ⟨_, _, rfl⟩

/-! ### The chosen split (R57, R58) -/

theorem chosenSplit_admissible {available : List (Nat × Nat)} {limit target : Nat} {chosen : List Nat}
    (h : chosenSplit available limit target = some chosen) : Admissible available limit target chosen := by
  induction available generalizing limit target chosen with
  | nil =>
    unfold chosenSplit at h
    split_ifs at h with zero
    exact admissible_nil.2 ⟨(Option.some.inj h).symm, zero⟩
  | cons x rest ih =>
    obtain ⟨m, bound, found, -⟩ := tryDown_eq_some h
    obtain ⟨ns, rest_found, rfl⟩ := Option.map_eq_some_iff.1 found
    obtain ⟨available, limit', quotient⟩ : m ≤ x.2 ∧ m ≤ limit ∧ m ≤ target / x.1 := by omega
    exact admissible_cons.2 ⟨available, limit',
      (Nat.mul_le_mul_right _ quotient).trans (Nat.div_mul_le_self _ _), ih rest_found⟩

/-- R57: where a split is admissible one is chosen, and none is lexicographically greater. -/
theorem chosenSplit_greatest {available : List (Nat × Nat)} {limit target : Nat} {ns : List Nat}
    (positive : ∀ x ∈ available, 0 < x.1) (h : Admissible available limit target ns) :
    ∃ chosen, chosenSplit available limit target = some chosen ∧ (ns = chosen ∨ List.Lex (· < ·) ns chosen) := by
  induction available generalizing limit target ns with
  | nil =>
    obtain ⟨rfl, rfl⟩ := admissible_nil.1 h
    exact ⟨[], rfl, .inl rfl⟩
  | cons x rest ih =>
    obtain ⟨n, ns, rfl⟩ := h.exists_cons
    obtain ⟨fits, items, value, others⟩ := admissible_cons.1 h
    have quotient : n ≤ target / x.1 := (Nat.le_div_iff_mul_le (positive x (by simp))).2 value
    obtain ⟨best, found, order⟩ := ih (fun y hy => positive y (by simp [hy])) others
    cases tried : chosenSplit (x :: rest) limit target with
    | none => simpa [found] using tryDown_eq_none_iff.1 tried n (by omega)
    | some chosen =>
      refine ⟨chosen, rfl, ?_⟩
      obtain ⟨m, -, success, above⟩ := tryDown_eq_some tried
      obtain ⟨ms, found', rfl⟩ := Option.map_eq_some_iff.1 success
      rcases lt_trichotomy n m with less | rfl | more
      · exact .inr (.rel less)
      · obtain rfl : best = ms := by simpa [found] using found'
        exact order.imp (congrArg _) .cons
      · simpa [found] using above n more (by omega)

/-- Settles O20: the denominations by insertion in order, the search by induction on them. -/
theorem searchFindsTheGreatestSplit : Obligations.SearchFindsTheGreatestSplit := by
  refine ⟨fun os => ?descending, fun available limit target positive => ⟨fun nothing ns h => ?complete,
    fun chosen found => ⟨chosenSplit_admissible found, fun ns h => ?greatest⟩⟩⟩
  case descending =>
    rw [measures_map_fst]
    exact denominations_pairwise os
  case complete =>
    obtain ⟨chosen, found, -⟩ := chosenSplit_greatest positive h
    simp [nothing] at found
  case greatest =>
    obtain ⟨best, found', order⟩ := chosenSplit_greatest positive h
    obtain rfl : best = chosen := by simpa [found] using found'.symm
    exact order

end Sys2Proof.Machine
end

section
/-! PROOFS. Allocation among the stores of a denomination (R61) and the plan it makes (R62). -/

namespace Sys2Proof.Machine

/-! ### One item given to the fullest offer (R61) -/

/-- What an offer has left when some of its items are given. -/
def unallocated (x : Offer × Nat) : Nat := x.1.items - x.2

theorem fullest_eq_none_iff {xs : List (Offer × Nat)} : fullest xs = none ↔ xs = [] := by
  cases xs with
  | nil => simp [fullest]
  | cons x xs =>
    unfold fullest
    cases fullest xs with
    | none => simp
    | some y => simp only [reduceCtorEq, iff_false]; split_ifs <;> simp

theorem fullest_mem {xs : List (Offer × Nat)} {y : Offer × Nat} (h : fullest xs = some y) : y ∈ xs := by
  induction xs generalizing y with
  | nil => simp [fullest] at h
  | cons x xs ih =>
    unfold fullest at h
    cases rest : fullest xs with
    | none => simp_all
    | some z =>
      simp only [rest] at h
      split_ifs at h
      · exact .tail _ (Option.some.inj h ▸ ih rest)
      · exact Option.some.inj h ▸ .head _

/-- R61: no offer has more left than the fullest, and none of a lower station as much. -/
theorem unallocated_le_fullest {xs : List (Offer × Nat)} {y : Offer × Nat}
    (sorted : xs.Pairwise (fun a b => a.1.station < b.1.station)) (h : fullest xs = some y) {x : Offer × Nat}
    (hx : x ∈ xs) : unallocated x < unallocated y ∨ (unallocated x = unallocated y ∧ y.1.station ≤ x.1.station) := by
  induction xs generalizing x y with
  | nil => simp at hx
  | cons z zs ih =>
    obtain ⟨lowest, sorted⟩ := List.pairwise_cons.1 sorted
    unfold fullest at h
    cases rest : fullest zs with
    | none =>
      obtain rfl := fullest_eq_none_iff.1 rest
      simp_all
    | some w =>
      have below : ∀ x ∈ zs, unallocated x ≤ unallocated w := fun x hx => by
        rcases ih sorted rest hx with less | ⟨same, -⟩ <;> omega
      simp only [rest] at h
      split_ifs at h with more
      · obtain rfl := Option.some.inj h
        rcases List.mem_cons.1 hx with rfl | hx
        · exact .inl more
        · exact ih sorted rest hx
      · obtain rfl := Option.some.inj h
        have most : unallocated w ≤ unallocated z := by simpa [unallocated] using more
        rcases List.mem_cons.1 hx with rfl | hx
        · exact .inr ⟨rfl, le_rfl⟩
        · rcases Nat.lt_or_eq_of_le ((below x hx).trans most) with less | same
          · exact .inl less
          · exact .inr ⟨same, (lowest x hx).le⟩

/-- R61: the fullest offer gives one item more, and nothing else changes. -/
theorem giveOne_eq {xs : List (Offer × Nat)} {y : Offer × Nat}
    (sorted : xs.Pairwise (fun a b => a.1.station < b.1.station)) (h : fullest xs = some y) :
    ∃ before after, xs = before ++ y :: after ∧ giveOne xs = before ++ (y.1, y.2 + 1) :: after := by
  obtain ⟨before, after, rfl⟩ := List.append_of_mem (fullest_mem h)
  have others : ∀ x ∈ before ++ after, x.1.station ≠ y.1.station := by
    simp only [List.pairwise_append, List.pairwise_cons, List.mem_cons] at sorted
    obtain ⟨-, ⟨above, -⟩, below⟩ := sorted
    intro x hx
    rcases List.mem_append.1 hx with hx | hx
    · exact (below x hx y (.inl rfl)).ne
    · exact (above x hx).ne'
  have keeps : ∀ l ⊆ before ++ after,
      l.map (fun x => if x.1.station = y.1.station then (x.1, x.2 + 1) else x) = l := fun l sub =>
    (List.map_congr_left fun x hx => if_neg (others x (sub hx))).trans (List.map_id' l)
  refine ⟨before, after, rfl, ?_⟩
  simp [giveOne, h, keeps before (by simp), keeps after (by simp)]

/-! ### Allocating one item at a time (R61) -/

/-- R61: what n items given one at a time to some offers come to: the offers as they were, n items given, none beyond
what an offer has, and the last item of each given while no other offer had more, nor a lower station as much. -/
structure Allocation (os : List Offer) (n : Nat) (xs : List (Offer × Nat)) : Prop where
  offers : xs.map Prod.fst = os
  total : (xs.map Prod.snd).sum = n
  within : ∀ x ∈ xs, x.2 ≤ x.1.items
  balanced : ∀ x ∈ xs, ∀ y ∈ xs, 0 < x.2 → y.1.station ≠ x.1.station →
    unallocated y < unallocated x + 1 ∨ (unallocated y = unallocated x + 1 ∧ x.1.station < y.1.station)

theorem Allocation.nothing (os : List Offer) : Allocation os 0 (os.map (fun o => (o, 0))) where
  offers := by simp [Function.comp_def]
  total := by simp [Function.comp_def]
  within := by simp
  balanced := by simp

theorem Allocation.sorted {os : List Offer} {n : Nat} {xs : List (Offer × Nat)} (h : Allocation os n xs)
    (sorted : os.Pairwise (fun a b => a.station < b.station)) : xs.Pairwise (fun a b => a.1.station < b.1.station) := by
  rwa [← h.offers, List.pairwise_map] at sorted

theorem Allocation.fullest_has_left {os : List Offer} {n : Nat} {xs : List (Offer × Nat)} (h : Allocation os n xs)
    (sorted : os.Pairwise (fun a b => a.station < b.station)) (more : n < (os.map Offer.items).sum) :
    ∃ y, fullest xs = some y ∧ y.2 < y.1.items := by
  obtain ⟨x, hx, less⟩ : ∃ x ∈ xs, x.2 < x.1.items := by
    by_contra exhausted
    push Not at exhausted
    have := List.sum_le_sum exhausted
    rw [h.total, ← Function.comp_def Offer.items, ← List.map_map, h.offers] at this
    omega
  cases found : fullest xs with
  | none => simp [fullest_eq_none_iff.1 found] at hx
  | some y =>
    refine ⟨y, rfl, ?_⟩
    have := unallocated_le_fullest (h.sorted sorted) found hx
    unfold unallocated at this
    omega

theorem Allocation.giveOne {os : List Offer} {n : Nat} {xs : List (Offer × Nat)} (h : Allocation os n xs)
    (sorted : os.Pairwise (fun a b => a.station < b.station)) (more : n < (os.map Offer.items).sum) :
    Allocation os (n + 1) (giveOne xs) := by
  obtain ⟨y, found, less⟩ := h.fullest_has_left sorted more
  have most := fun x hx => unallocated_le_fullest (x := x) (h.sorted sorted) found hx
  obtain ⟨before, after, rfl, given⟩ := giveOne_eq (h.sorted sorted) found
  obtain ⟨offers, total, within, balanced⟩ := h
  have kept : ∀ x ∈ Machine.giveOne (before ++ y :: after), x ∈ before ++ y :: after ∨ x = (y.1, y.2 + 1) := by
    simp only [given, List.mem_append, List.mem_cons]
    tauto
  have fewer : unallocated (y.1, y.2 + 1) + 1 = unallocated y := by simp only [unallocated]; omega
  refine ⟨by simpa [given] using offers, ?_, fun x hx => ?_, fun x hx z hz gave other => ?_⟩
  · simp only [given, List.map_append, List.map_cons, List.sum_append, List.sum_cons] at total ⊢
    omega
  · rcases kept x hx with hx | rfl
    · exact within x hx
    · exact less
  · rcases kept x hx with hx | rfl <;> rcases kept z hz with hz | rfl
    · exact balanced x hx z hz gave other
    · have := balanced x hx y (by simp) gave other
      omega
    · have := most z hz
      rw [fewer]
      rcases this with less | ⟨same, lower⟩
      · exact .inl less
      · exact .inr ⟨same, lt_of_le_of_ne lower other.symm⟩
    · exact absurd rfl other

theorem Allocation.iterate {os : List Offer} (sorted : os.Pairwise (fun a b => a.station < b.station)) {n : Nat}
    (fits : n ≤ (os.map Offer.items).sum) :
    Allocation os n (Nat.iterate Machine.giveOne n (os.map (fun o => (o, 0)))) := by
  induction n with
  | zero => exact .nothing os
  | succ n ih =>
    rw [Function.iterate_succ_apply']
    exact (ih (by omega)).giveOne sorted fits

/-! ### What a list holds at a station (R27) -/

theorem itemsAt_eq_zero {list : List Entry} {i : Station} (h : ∀ en ∈ list, en.station ≠ i) : itemsAt list i = 0 := by
  have missing : list.find? (fun en => en.station == i) = none := by simpa using h
  simp [itemsAt, missing]

theorem itemsAt_of_mem {list : List Entry} {en : Entry} (nodup : (list.map Entry.station).Nodup) (h : en ∈ list) :
    itemsAt list en.station = en.items := by
  unfold itemsAt
  cases found : list.find? (fun x => x.station == en.station) with
  | none => simpa using List.find?_eq_none.1 found en h
  | some x =>
    have same : x.station = en.station := by simpa using List.find?_some found
    rw [List.inj_on_of_nodup_map nodup (List.mem_of_find?_eq_some found) h same]

theorem exists_mem_of_itemsAt_pos {list : List Entry} {i : Station} (h : 0 < itemsAt list i) :
    ∃ en ∈ list, en.station = i := by
  by_contra absent
  push Not at absent
  simp [itemsAt_eq_zero absent] at h

/-! ### The entries of a denomination (R61) -/

/-- The offers that gave nothing make no entry, and lose no item by that. -/
theorem listItems_given (xs : List (Offer × Nat)) :
    listItems ((xs.filter (fun x => x.2 != 0)).map (fun x => ⟨x.1.station, x.2⟩)) = (xs.map Prod.snd).sum := by
  induction xs with
  | nil => rfl
  | cons x xs ih => by_cases zero : x.2 = 0 <;> simp_all [listItems]

section
variable {os : List Offer} (sorted : os.Pairwise (fun a b => a.station < b.station)) {d n : Nat}
  (fits : n ≤ measure os d)
include sorted fits

/-- The entries of a denomination are the offers that gave an item. -/
theorem allocate_eq :
    ∃ xs, Allocation (os.filter (fun o => o.denomination == d)) n xs
      ∧ xs.Pairwise (fun a b => a.1.station < b.1.station)
      ∧ allocate os d n = (xs.filter (fun x => x.2 != 0)).map (fun x => ⟨x.1.station, x.2⟩) :=
  have sorted' := sorted.filter (fun o => o.denomination == d)
  have given := Allocation.iterate sorted' fits
  ⟨_, given, given.sorted sorted', rfl⟩

theorem allocate_pairwise : (allocate os d n).Pairwise (fun a b => a.station < b.station) := by
  obtain ⟨xs, -, sorted', eq⟩ := allocate_eq sorted fits
  rw [eq, List.pairwise_map]
  exact sorted'.filter _

theorem listItems_allocate : listItems (allocate os d n) = n := by
  obtain ⟨xs, ⟨-, total, -, -⟩, -, eq⟩ := allocate_eq sorted fits
  rw [eq, ← total, listItems_given]

theorem offer_of_mem_allocate {en : Entry} (h : en ∈ allocate os d n) :
    0 < en.items ∧ ∃ o ∈ os, o.denomination = d ∧ o.station = en.station ∧ en.items ≤ o.items := by
  obtain ⟨xs, ⟨offers, -, within, -⟩, -, eq⟩ := allocate_eq sorted fits
  rw [eq, List.mem_map] at h
  obtain ⟨x, hx, rfl⟩ := h
  obtain ⟨hx, gave⟩ : x ∈ xs ∧ x.2 ≠ 0 := by simpa using hx
  have offered : x.1 ∈ os ∧ x.1.denomination = d := by
    simpa using (offers ▸ List.mem_map_of_mem hx : x.1 ∈ os.filter (fun o => o.denomination == d))
  exact ⟨Nat.pos_of_ne_zero gave, x.1, offered.1, offered.2, rfl, within x hx⟩

/-- R61: the last item an offer gave was taken while no other offer of the denomination had more, nor a lower station as
much. -/
theorem allocate_balanced {a b : Offer} (ha : a ∈ os) (hb : b ∈ os) (da : a.denomination = d) (db : b.denomination = d)
    (gave : 0 < itemsAt (allocate os d n) a.station) (other : b.station ≠ a.station) :
    b.items - itemsAt (allocate os d n) b.station < a.items - itemsAt (allocate os d n) a.station + 1
      ∨ (b.items - itemsAt (allocate os d n) b.station = a.items - itemsAt (allocate os d n) a.station + 1
          ∧ a.station < b.station) := by
  have nodup : ((allocate os d n).map Entry.station).Nodup :=
    List.pairwise_map.2 ((allocate_pairwise sorted fits).imp ne_of_lt)
  obtain ⟨xs, ⟨offers, -, -, balanced⟩, sorted', eq⟩ := allocate_eq sorted fits
  have distinct : (xs.map (fun x => x.1.station)).Nodup := List.pairwise_map.2 (sorted'.imp ne_of_lt)
  have given : ∀ o ∈ os, o.denomination = d → (o, itemsAt (allocate os d n) o.station) ∈ xs := by
    intro o ho hd
    have offered : o ∈ xs.map Prod.fst := by rw [offers]; simp [ho, hd]
    obtain ⟨⟨_, k⟩, hx, rfl⟩ := List.mem_map.1 offered
    suffices itemsAt (allocate os d n) _ = k by rwa [this]
    by_cases zero : k = 0
    · rw [zero, eq]
      refine itemsAt_eq_zero fun en hen same => ?_
      obtain ⟨y, hy, rfl⟩ := List.mem_map.1 hen
      have := List.inj_on_of_nodup_map distinct (List.mem_of_mem_filter hy) hx same
      simp [this, zero] at hy
    · refine itemsAt_of_mem (en := ⟨_, k⟩) nodup ?_
      rw [eq]
      exact List.mem_map.2 ⟨_, List.mem_filter.2 ⟨hx, by simpa using zero⟩, rfl⟩
  exact balanced _ (given a ha da) _ (given b hb db) gave other

end

/-! ### The parts of a plan (R56, R62) -/

/-- A denomination with the count the split gives it, in the order of the split: no denomination twice, none beyond its
measure, the items within the limit and the value the target. -/
structure PlanParts (os : List Offer) (limit target : Nat) (parts : List (Nat × Nat)) : Prop where
  descending : parts.Pairwise (fun x y => y.1 < x.1)
  fits : ∀ x ∈ parts, x.2 ≤ measure os x.1
  items : (parts.map Prod.snd).sum ≤ limit
  value : (parts.map (fun x => x.2 * x.1)).sum = target

/-- R62: the entries of the parts in turn. -/
def allocateParts (os : List Offer) (parts : List (Nat × Nat)) : List Entry :=
  parts.flatMap (fun x => allocate os x.1 x.2)

theorem mem_allocateParts {os : List Offer} {parts : List (Nat × Nat)} {en : Entry} :
    en ∈ allocateParts os parts ↔ ∃ x ∈ parts, en ∈ allocate os x.1 x.2 := List.mem_flatMap

theorem planParts_of_planOf {os : List Offer} {limit target : Nat} {list : List Entry}
    (h : planOf os limit target = some list) :
    ∃ parts, PlanParts os limit target parts ∧ list = allocateParts os parts := by
  obtain ⟨ns, found, rfl⟩ := Option.map_eq_some_iff.1 h
  obtain ⟨fits, items, value⟩ := chosenSplit_admissible found
  have length := fits.length_eq
  have zipped : (measures os).zip ns
      = ((denominations os).zip ns).map (fun x => ((x.1, measure os x.1), x.2)) := List.zip_map_left ..
  rw [measures, List.length_map] at length
  refine ⟨(denominations os).zip ns, ⟨?_, fun x hx => ?_, ?_, ?_⟩, ?_⟩
  · refine List.pairwise_map.1 (?_ : (((denominations os).zip ns).map Prod.fst).Pairwise (fun d e => e < d))
    rw [List.map_fst_zip length.le]
    exact denominations_pairwise os
  · exact (List.forall₂_iff_zip.1 (List.forall₂_map_left_iff.1 fits)).2 hx
  · rwa [List.map_snd_zip length.ge]
  · rw [← value, zipped, List.map_map]
    rfl
  · rw [zipped, List.flatMap_map]
    rfl

theorem listItems_flatMap {α : Type} (l : List α) (f : α → List Entry) :
    listItems (l.flatMap f) = (l.map (fun x => listItems (f x))).sum := by
  induction l with
  | nil => rfl
  | cons x l ih => simp_all [listItems]

theorem State.listValue_flatMap {α : Type} (s : State) (l : List α) (f : α → List Entry) :
    s.listValue (l.flatMap f) = (l.map (fun x => s.listValue (f x))).sum := by
  induction l with
  | nil => rfl
  | cons x l ih => simp_all [State.listValue]

theorem State.listValue_of_denomination {s : State} {list : List Entry} {d : Nat}
    (h : ∀ en ∈ list, (s.store en.station).cfg.denomination = d) : s.listValue list = listItems list * d := by
  induction list with
  | nil => simp [State.listValue, listItems]
  | cons en rest ih =>
    obtain ⟨first, others⟩ := List.forall_mem_cons.1 h
    have := ih others
    simp only [State.listValue, listItems, List.map_cons, List.sum_cons, first, Nat.add_mul] at this ⊢
    rw [this]

theorem State.listValue_eq_zero {s : State} {list : List Entry} (h : listItems list = 0) : s.listValue list = 0 := by
  simp_all [State.listValue, listItems, List.sum_eq_zero_iff]

/-! ### The offers of a request (R55) -/

theorem State.mem_offers {s : State} {pass : Pass} {excluded : BitVec 12} {own : Station → Nat} {o : Offer} :
    o ∈ s.offers pass excluded own
      ↔ (s.store o.station).usable = true ∧ excluded.getLsbD o.station.val = false
        ∧ o = ⟨o.station, (s.store o.station).cfg.denomination,
            (s.store o.station).available pass + own o.station⟩ := by
  have every : ∀ i : Station, i ∈ allStations := by decide
  simp only [State.offers, List.mem_filterMap, every, true_and]
  constructor
  · rintro ⟨i, hi⟩
    split_ifs at hi with offered
    obtain rfl := Option.some.inj hi
    simpa using offered
  · rintro ⟨usable, included, eq⟩
    refine ⟨o.station, ?_⟩
    simpa only [usable, included, Bool.not_false, Bool.and_true, if_true] using congrArg some eq.symm

theorem State.offers_sorted (s : State) (pass : Pass) (excluded : BitVec 12) (own : Station → Nat) :
    (s.offers pass excluded own).Pairwise (fun a b => a.station < b.station) := by
  have ascending : allStations.Pairwise (· < ·) := by decide
  refine List.pairwise_filterMap.2 (ascending.imp fun less o ho o' ho' => ?_)
  dsimp only at ho ho'
  split_ifs at ho ho'
  obtain rfl := Option.some.inj ho
  obtain rfl := Option.some.inj ho'
  exact less

/-! ### The plan of a request (R62) -/

section
variable {s : State} {pass : Pass} {excluded : BitVec 12} {own : Station → Nat} {limit target : Nat}
  {parts : List (Nat × Nat)} (h : PlanParts (s.offers pass excluded own) limit target parts)
include h

theorem PlanParts.mem_allocate {x : Nat × Nat} (hx : x ∈ parts) {en : Entry}
    (hen : en ∈ allocate (s.offers pass excluded own) x.1 x.2) :
    (s.store en.station).cfg.denomination = x.1 ∧ 0 < en.items ∧ (s.store en.station).usable = true
      ∧ excluded.getLsbD en.station.val = false ∧ en.items ≤ (s.store en.station).available pass + own en.station := by
  obtain ⟨gave, o, ho, value, station, most⟩ := offer_of_mem_allocate (s.offers_sorted ..) (h.fits x hx) hen
  obtain ⟨usable, included, eq⟩ := State.mem_offers.1 ho
  rw [eq] at value most
  rw [← station]
  exact ⟨value, gave, usable, included, most⟩

theorem PlanParts.listItems_eq :
    listItems (allocateParts (s.offers pass excluded own) parts) = (parts.map Prod.snd).sum := by
  rw [allocateParts, listItems_flatMap]
  exact congrArg List.sum (List.map_congr_left fun x hx => listItems_allocate (s.offers_sorted ..) (h.fits x hx))

theorem PlanParts.listValue_eq :
    s.listValue (allocateParts (s.offers pass excluded own) parts) = target := by
  rw [allocateParts, State.listValue_flatMap, ← h.value]
  refine congrArg List.sum (List.map_congr_left fun x hx => ?_)
  rw [State.listValue_of_denomination fun en hen => (h.mem_allocate hx hen).1,
    listItems_allocate (s.offers_sorted ..) (h.fits x hx)]

/-- R62: the order in which a payout engine walks the list. -/
theorem PlanParts.ordered :
    (allocateParts (s.offers pass excluded own) parts).Pairwise (fun a b =>
      (s.store b.station).cfg.denomination < (s.store a.station).cfg.denomination
        ∨ ((s.store a.station).cfg.denomination = (s.store b.station).cfg.denomination ∧ a.station < b.station)) := by
  refine List.pairwise_flatMap.2 ⟨fun x hx => ?_, h.descending.imp_of_mem fun {x y} hx hy less a ha b hb => .inl ?_⟩
  · refine (allocate_pairwise (s.offers_sorted ..) (h.fits x hx)).imp_of_mem fun {a b} ha hb less => .inr ⟨?_, less⟩
    rw [(h.mem_allocate hx ha).1, (h.mem_allocate hx hb).1]
  · rwa [(h.mem_allocate hx ha).1, (h.mem_allocate hy hb).1]

theorem PlanParts.nodup :
    ((allocateParts (s.offers pass excluded own) parts).map Entry.station).Nodup := by
  refine List.pairwise_map.2 (h.ordered.imp fun {a b} order same => ?_)
  rw [same] at order
  rcases order with less | ⟨-, less⟩ <;> exact absurd less (lt_irrefl _)

/-- What the plan holds at a station is what the part of its denomination gave there. -/
theorem PlanParts.itemsAt_eq {x : Nat × Nat} (hx : x ∈ parts) {i : Station}
    (hi : (s.store i).cfg.denomination = x.1) :
    itemsAt (allocateParts (s.offers pass excluded own) parts) i
      = itemsAt (allocate (s.offers pass excluded own) x.1 x.2) i := by
  have distinct : (parts.map Prod.fst).Nodup := List.pairwise_map.2 (h.descending.imp ne_of_gt)
  have nodup : ((allocate (s.offers pass excluded own) x.1 x.2).map Entry.station).Nodup :=
    List.pairwise_map.2 ((allocate_pairwise (s.offers_sorted ..) (h.fits x hx)).imp ne_of_lt)
  by_cases given : ∃ en ∈ allocate (s.offers pass excluded own) x.1 x.2, en.station = i
  · obtain ⟨en, hen, rfl⟩ := given
    rw [itemsAt_of_mem nodup hen, itemsAt_of_mem h.nodup (mem_allocateParts.2 ⟨x, hx, hen⟩)]
  · push Not at given
    rw [itemsAt_eq_zero given, itemsAt_eq_zero]
    intro en hen same
    obtain ⟨y, hy, hen⟩ := mem_allocateParts.1 hen
    obtain rfl : x = y :=
      List.inj_on_of_nodup_map distinct hx hy (by rw [← hi, ← same, (h.mem_allocate hy hen).1])
    exact given en hen same

/-- R61 across the whole plan: the last item taken from a store found no other usable store of its denomination with
more, nor one of a lower station with as much. -/
theorem PlanParts.balanced {a b : Station}
    (gave : 0 < itemsAt (allocateParts (s.offers pass excluded own) parts) a) (other : b ≠ a)
    (usable : (s.store b).usable = true) (included : excluded.getLsbD b.val = false)
    (same : (s.store b).cfg.denomination = (s.store a).cfg.denomination) :
    (s.store b).available pass + own b - itemsAt (allocateParts (s.offers pass excluded own) parts) b
        < (s.store a).available pass + own a - itemsAt (allocateParts (s.offers pass excluded own) parts) a + 1
      ∨ ((s.store b).available pass + own b - itemsAt (allocateParts (s.offers pass excluded own) parts) b
          = (s.store a).available pass + own a - itemsAt (allocateParts (s.offers pass excluded own) parts) a + 1
        ∧ a < b) := by
  obtain ⟨en, hen, rfl⟩ := exists_mem_of_itemsAt_pos gave
  obtain ⟨x, hx, hen⟩ := mem_allocateParts.1 hen
  obtain ⟨value, -, usable', included', -⟩ := h.mem_allocate hx hen
  rw [h.itemsAt_eq hx value] at gave ⊢
  rw [h.itemsAt_eq hx (same.trans value)]
  exact allocate_balanced (a := ⟨en.station, _, _⟩) (b := ⟨b, _, _⟩) (s.offers_sorted ..) (h.fits x hx)
    (State.mem_offers.2 ⟨usable', included', rfl⟩) (State.mem_offers.2 ⟨usable, included, rfl⟩) value
    (same.trans value) gave other

end

/-- Settles O21: the parts of the split, and what the allocation of each gives. -/
theorem plansAreMadeOfWhatIsFree : Obligations.PlansAreMadeOfWhatIsFree := by
  intro s pass excluded own limit target list found
  obtain ⟨parts, h, rfl⟩ := planParts_of_planOf found
  refine ⟨h.listValue_eq, h.listItems_eq.trans_le h.items, ?entries, fun positive => ?items, h.nodup,
    fun en hen => ?fits, h.ordered, fun a b => h.balanced⟩
  case entries => simpa using h.nodup.length_le_card
  case items =>
    rw [Nat.pos_iff_ne_zero]
    intro zero
    have worthless := State.listValue_eq_zero (s := s) zero
    rw [h.listValue_eq] at worthless
    omega
  case fits =>
    obtain ⟨x, hx, hen⟩ := mem_allocateParts.1 hen
    exact (h.mem_allocate hx hen).2

end Sys2Proof.Machine
end

section
/-! PROOFS. SETTLE of a SALE record with nothing left to pay (R64). -/

namespace Sys2Proof.Machine

/-! ### The accept mask of a point whose record takes no credit (R92) -/

/-- R27: the record's point is bound to its tag. -/
theorem State.binding_of_pointOf {s : State} {tag : Nat} {q : PointId} (h : s.pointOf tag = some q) :
    (s.point q).binding = .record tag := by
  unfold State.pointOf at h
  split_ifs at h with first second
  · obtain rfl := Option.some.inj h
    exact first
  · obtain rfl := Option.some.inj h
    exact second

/-- R92: at a point bound to a PAID record nothing is accepted. -/
theorem State.acceptMask_paid {s : State} {q : PointId} {tag : Nat} {i : Slot} {r : Rec}
    (bound : (s.point q).binding = .record tag) (found : s.lookup tag = some (i, r)) (paid : r.state = .paid) :
    s.acceptMask q = [] := by
  simp [State.acceptMask, State.inhibited, State.creditTaking, bound, found, paid]

/-- R93: the end of the action shuts the acceptor of a point whose record is PAID. -/
theorem State.refreshMasks_mask_paid {s : State} {q : PointId} {tag : Nat} {i : Slot} {r : Rec}
    (bound : (s.point q).binding = .record tag) (found : s.lookup tag = some (i, r)) (paid : r.state = .paid) :
    (s.refreshMasks.point q).mask = [] := by
  cases q with
  | p1 =>
    rw [State.refreshMasks, State.refreshMask_point_ne _ (by decide), State.refreshMask_mask]
    exact State.acceptMask_paid bound found paid
  | p2 =>
    rw [State.refreshMasks, State.refreshMask_mask]
    refine State.acceptMask_paid ?_ ((State.lookup_congr (by simp) tag).trans found) paid
    rw [State.refreshMask_point_ne _ (by decide), bound]

/-! ### The rule of SETTLE with remaining 0 -/

theorem execSettle_ready {s : State} {p : PortId} (hp : s.ready p .settle) (f : TagFields) :
    exec (.settle p (.fits f)) s = ruleSettle (s.taken p .settle) (s.qualifiers p) f :=
  State.takeCommand_ready hp rfl ruleSettle

theorem Rec.remaining_of_paid_up {r : Rec} (owed : r.owed.isSome = true) (enough : r.owed.getD 0 ≤ r.paid) :
    r.remaining = some 0 := by
  obtain ⟨n, hn⟩ := Option.isSome_iff_exists.1 owed
  simp only [hn, Option.getD_some] at enough
  simp [Rec.remaining, hn, enough]

theorem ruleSettle_of_paid_up {s : State} {f : TagFields} {i : Slot} {r : Rec} (h : s.holds f.tag i r) (k : Taken)
    (underway : r.state = .opened ∨ r.state = .tendering ∨ r.state = .settled ∨ r.state = .partPaid
      ∨ r.state = .interrupted)
    (sale : r.kind = .sale) (remaining : r.remaining = some 0) :
    ruleSettle s k f = ((s.settlePaid i).done k .settle .done (s.settleReply 3 0 0 0 0 none [])).answer := by
  rcases underway with hr | hr | hr | hr | hr <;> simp [ruleSettle, State.withRecord_holds h, hr, remaining, sale]

/-- R211: with no list, the settle reply reads nothing of the state but the counter of free values (log 9). -/
theorem State.settleReply_nil_congr {s t : State} (h : t.free = s.free) (outcome pass planned shortfall lender : Nat)
    (lapseAt : Option Time) :
    t.settleReply outcome pass planned shortfall lender lapseAt []
      = s.settleReply outcome pass planned shortfall lender lapseAt [] := by
  simp [State.settleReply, h]

/-- R64: what going to PAID without a plan makes of the record, the stores and the rest. -/
theorem State.settlePaid_spec {s : State} {i : Slot} {r : Rec} (hs : s.slot i = some r)
    (nodup : (r.list.map Entry.station).Nodup) :
    (s.settlePaid i).slot i = some
        { r with
          state := .paid, stateSince := s.time, list := [], pinned := false, planned := none, delivered := none
          lapseAt := none, settledFrom := none, shortfall := none
          listChange := if r.list = [] then r.listChange else r.listChange + 1#8 }
      ∧ OtherSlots i s (s.settlePaid i) ∧ Released r.list s (s.settlePaid i)
      ∧ Frame [.records, .stores] s (s.settlePaid i) := by
  obtain ⟨slot, others, released⟩ := State.release_spec hs nodup
  unfold State.settlePaid
  refine ⟨?_, fun j hj => ?_, fun st => ?_, ?_⟩
  · simp [slot, Rec.enter, Rec.leavePlan]
  · rw [State.slot_updRec_ne _ _ hj, others j hj]
  · rw [State.store_updRec, released st]
  · exact ((Frame.release s i).trans (Frame.updRec _ i _)).mono (by simp)

/-- A record that stands in its slot as another of the same tag is held as the one before was. -/
theorem State.holds_of_slots {s t : State} {tag : BitVec 16} {i : Slot} {r r' : Rec} (h : s.holds tag i r)
    (slot : t.slot i = some r') (same : r'.tag = r.tag) (others : OtherSlots i s t) : t.holds tag i r' := by
  obtain ⟨nonzero, named, -, unique⟩ := h
  refine ⟨nonzero, same.trans named, slot, fun j q hq tagged => ?_⟩
  by_contra hj
  exact hj (unique j q (others j hj ▸ hq) (tagged.trans same))

/-- Settles O24: the record released and taken to PAID, whose point then takes no credit. -/
theorem settleOfNothingPays : Obligations.SettleOfNothingPays := by
  intro s p f i r hp h formed sale owed enough paying unpaid live
  have ht := State.taken_holds h p .settle
  have named : r.tag = f.tag.toNat := h.2.1
  obtain ⟨slot, others, released, frame⟩ := State.settlePaid_spec ht.slot_eq formed.1
  have held := State.holds_of_slots ht slot rfl others
  have points : ∀ q, (((s.taken p .settle).settlePaid i).point q).core = (s.point q).core :=
    fun q => (frame.2 .points (by simp) q).trans (s.taken_core p .settle q)
  have reply := State.settleReply_nil_congr (s := s) (t := s.taken p .settle) (by simp) 3 0 0 0 0 none
  rw [execSettle_ready hp, ruleSettle_of_paid_up ht _ (RecState.underway_cases paying unpaid live) sale
    (Rec.remaining_of_paid_up owed enough), reply]
  refine ⟨_, rfl, ?_, fun j hj => ?_, fun st => ?_, Answered.of_answer (frame.2 .ports (by simp)), fun q hq => ?_,
    (Frame.of_answer frame _ _).mono (by simp)⟩
  · simp [slot]
  · simpa using others j hj
  · simpa using released st
  · have bound := congrArg Point.binding (points q)
    rw [Point.core_binding, Point.core_binding, State.binding_of_pointOf hq, named] at bound
    exact State.refreshMasks_mask_paid (by rw [State.done_point, bound])
      ((State.lookup_congr (by simp) f.tag.toNat).trans (State.lookup_holds held)) rfl

end Sys2Proof.Machine
end
